-- ==== Sys2Proof/Word.lean ====
section
/-!
DEFINITION. Word.lean: the word types of the GZ4. Everything the manual treats as bits is a bit vector; everything it
treats as a number is a Nat or a Fin.
-/

namespace Sys2Proof

/-- One byte of the 8-bit host port (section 1.2). -/
abbrev Byte := BitVec 8

/-- A 16-bit value: a 16-bit register, a key token or a table entry. -/
abbrev Half := BitVec 16

/-- A byte address of the register window, A5-A0 (section 1.2). -/
abbrev Addr := BitVec 6

/-- A key position of the matrix, 0 to 127: drive number times 8 plus sense number (section 2.2). -/
abbrev Position := Fin 128

/-- One of the sixteen interrupt priority levels (section 5.1). -/
abbrev Level := Fin 16

/-- A row of eight bytes: ARG0-ARG7, their working copy, or RES0-RES7 (section 1.5). -/
abbrev Row := Vector Byte 8

/-- Eight zero bytes. -/
def Row.zero : Row := Vector.replicate 8 0#8

/-- The byte whose unsigned value is `n` modulo 256. -/
def byteOf (n : Nat) : Byte := BitVec.ofNat 8 n

end Sys2Proof
end

