-- ==== Sys2Proof/Syntax.lean ====
section
/-!
DEFINITION. Syntax.lean: the commands of the GZ4, one constructor per row of spec/opcode_table.json, in the table's order.
A host access carries its address or byte; a mailbox command step reads its arguments from the working copy (R10) and
carries none; an event carries what it brings with it.

`cut` (log entry 5) is carried by the steps that a supervisory event may cut short (R7, R168, R177): `none`, the step runs
to its end; `some k`, it is cut after `k` of its changes to the battery domain.
-/

namespace Sys2Proof

/-- The commands of the table: host accesses, mailbox command steps, and the events of the block. -/
inductive Instr where
  /-- REGISTER_WRITE (R1): a host write of `d` to an address with no row of its own. -/
  | registerWrite (a : Addr) (d : Byte)
  /-- LOW_BYTE_WRITE (R2): a write of the low byte of a write-only 16-bit pair. -/
  | lowByteWrite (a : Addr) (d : Byte)
  /-- LOW_BYTE_READ (R3): a read of the low byte of a read-only 16-bit pair, and of any other address whose read has no
  row of its own (log entry 6). -/
  | lowByteRead (a : Addr)
  /-- LAMPS_WRITE (R46). -/
  | lampsWrite (d : Byte)
  /-- MBCMD_WRITE (R10, R11): `d` is the command code. -/
  | mbcmdWrite (d : Byte)
  /-- BAD_COMMAND (R12). -/
  | badCommand
  /-- ECHO (R17). -/
  | echo
  /-- RESET_DEVICE (R16, R181). -/
  | resetDevice
  /-- LOAD_ENTRY (R63). -/
  | loadEntry
  /-- READ_ENTRY (R64). -/
  | readEntry
  /-- SET_CLASS (R65). -/
  | setClass
  /-- READ_CLASS (R65). -/
  | readClass
  /-- RESTORE_LAYOUT (R66). -/
  | restoreLayout
  /-- SET_CHORD (R67). -/
  | setChord
  /-- READ_CHORD (R67). -/
  | readChord
  /-- SET_LOCKS (R68). -/
  | setLocks
  /-- READ_KEYSTATE (R69). -/
  | readKeystate
  /-- END_HOLD (R62). -/
  | endHold
  /-- INSERT (R80). -/
  | insert
  /-- FLUSH (R81). -/
  | flush
  /-- SET_ROUTE (R95). -/
  | setRoute
  /-- READ_ROUTE (R96). -/
  | readRoute
  /-- SET_TIME (R142). -/
  | setTime (cut : Option Nat)
  /-- SET_DATE (R143). -/
  | setDate (cut : Option Nat)
  /-- READ_TIME (R145). -/
  | readTime
  /-- SET_ALARM (R146). -/
  | setAlarm (cut : Option Nat)
  /-- CLEAR_ALARM (R146). -/
  | clearAlarm (cut : Option Nat)
  /-- READ_ALARM (R147). -/
  | readAlarm
  /-- SET_ADJUST (R152). -/
  | setAdjust (cut : Option Nat)
  /-- BACKUP_READ (R163). -/
  | backupRead
  /-- BACKUP_WRITE (R164, R168). -/
  | backupWrite (cut : Option Nat)
  /-- READ_RESET_RECORD (R166). -/
  | readResetRecord
  /-- CLEAR_RESET_RECORD (R166, R168). -/
  | clearResetRecord (cut : Option Nat)
  /-- SET_CONFIG (R18). -/
  | setConfig
  /-- READ_CONFIG (R19). -/
  | readConfig
  /-- SAVE_CONFIG (R165, R168). -/
  | saveConfig (cut : Option Nat)
  /-- LOAD_CONFIG (R165). -/
  | loadConfig
  /-- WATCHDOG_SET (R171). -/
  | watchdogSet
  /-- TQLOST_READ (R75). -/
  | tqlostRead
  /-- HEAD_SNAPSHOT (R77): the read of TQHT0. -/
  | headSnapshot
  /-- TQTAKE (R79): the byte written takes no part. -/
  | tqtake (d : Byte)
  /-- SCANC_STOP (R37): the write of 0x00 to SCANC. -/
  | scancStop
  /-- SCANC_RUN (R38): the write of 0x01 to SCANC. -/
  | scancRun
  /-- LVCTL_WRITE (R100). -/
  | lvctlWrite (d : Byte)
  /-- ACCEPT (R104): the read of LVACC. -/
  | accept
  /-- RELEASE (R105, R106): a write to LVREL; the byte written takes no part. -/
  | release (d : Byte)
  /-- LVENS (R98): the high-byte write `d` that commits the pair (R2). -/
  | lvens (d : Byte)
  /-- LVENC (R98): the high-byte write `d` that commits the pair (R2). -/
  | lvenc (d : Byte)
  /-- LVRQS (R99): the high-byte write `d` that commits the pair (R2). -/
  | lvrqs (d : Byte)
  /-- LVRQC (R99): the high-byte write `d` that commits the pair (R2). -/
  | lvrqc (d : Byte)
  /-- SRCCL (R93): the high-byte write `d` that commits the pair (R2). -/
  | srccl (d : Byte)
  /-- IDSTART (R114): `d` is the requested level. -/
  | idstart (d : Byte)
  /-- FLDB_READ (R134, R135). -/
  | fldbRead
  /-- WDKICK (R172): the byte written takes no part. -/
  | wdkick (d : Byte)
  /-- SELECTION_STEP (R115 to R118, R121). -/
  | selectionStep
  /-- PRESENCE (R122): CHD goes low within the answer window. -/
  | presence
  /-- PRESENCE_RELEASED (R123): CHD is released after presence. -/
  | presenceReleased
  /-- ANSWER_WINDOW_TIMEOUT (R122). -/
  | answerWindowTimeout
  /-- PRESENCE_STUCK_TIMEOUT (R123). -/
  | presenceStuckTimeout
  /-- IDENTITY_SHIFT_END (R124): the nine samples of CHD, the first sample in bit 8, the parity bit in bit 0. -/
  | identityShiftEnd (bits : BitVec 9)
  /-- CHAIN_CYCLE_COMPLETION (R122, R123, R125). -/
  | chainCycleCompletion
  /-- TIMEBASE_TICK (R140). -/
  | timebaseTick
  /-- REPEAT_EXPIRY (R85): the tick step in which the repeat countdown reaches 0. -/
  | repeatExpiry
  /-- FIRST_EXPIRY (R170): the tick step in which the watchdog expires in ARMED. -/
  | firstExpiry
  /-- SECOND_EXPIRY (R170): the tick step in which the watchdog expires in WARNED. -/
  | secondExpiry
  /-- SCAN_PASS (R25): bit p of `seen` is the reading of position p's sense line while its drive line is active. -/
  | scanPass (seen : BitVec 128)
  /-- HALT_DETECTION (R153 to R155). -/
  | haltDetection
  /-- OSCILLATOR_RESUME (R153). -/
  | oscillatorResume
  /-- NRESET (R176): nRESET is driven low. -/
  | nreset
  /-- BROWN_OUT_ENTRY (R174). -/
  | brownOutEntry
  /-- RETURN_TO_MAIN_ON (R174, R176). -/
  | returnToMainOn
  /-- VDD_LOSS (R174). -/
  | vddLoss
  /-- VDD_BELOW_BROWN_OUT_LEVEL (R174): VDD becomes present below the brown-out level. -/
  | vddBelowBrownOutLevel
  /-- VBAT_LOSS (R174). -/
  | vbatLoss
  /-- VBAT_PRESENT (R174, R157). -/
  | vbatPresent
  /-- FULL_RESET_SEQUENCE (R177): parts 2 to 7 of a full reset. -/
  | fullResetSequence (cut : Option Nat)
  /-- HOST_SIDE_RESET (R178). -/
  | hostSideReset (cut : Option Nat)
  /-- NHRST_RELEASE (R180). -/
  | nhrstRelease
  /-- SOFT_FULL_RESET (R181): part 1 of the full reset with reason SOFT. -/
  | softFullReset
  deriving DecidableEq, Repr

end Sys2Proof
end

