-- ==== Sys2Proof/Decode.lean ====
section
/-!
DEFINITION. Decode.lean: the commands that a word spells. spec/opcode_table.json gives no row any bits: the GZ4 fetches no
instruction, its host accesses and events come by its pins, and a mailbox code stands in a register (section 1.6). No word
spells a command.
-/

namespace Sys2Proof

/-- The command that the bits of a row spell: none, since no row of the table has bits. -/
def decodeTableWord (_nbits _w : Nat) : Option Instr := none

end Sys2Proof
end

