-- ==== Sys2Proof/Config.lean ====
section
/-!
DEFINITION. Config.lean: what the manual leaves open. The only value of the GZ4 that the manual calls arbitrary is the
content of the backup memory after a loss of the battery domain (R160, R168); it is a constant without a body, so that
nothing can be proved about it.
-/

namespace Sys2Proof

/-- FREE VALUE (log entry 3). The byte found at an address of the backup memory after the n-th start of the battery
domain from DEAD: "A loss of the battery domain makes the whole content arbitrary" (R168). -/
opaque Config.lostByte : Nat → Nat → Byte

end Sys2Proof
end

