-- ==== Sys2Proof/Machine/State.lean ====
section
/-!
DEFINITION. Machine/State.lean: everything the manual says the GZ4 holds, block by block, as plain data. The default value
of a field is its value after a full reset (the "At reset" column of each chapter, R20, R40, R71, R89, R112, R127, R137,
R155, R173) or, in the battery domain, after its start from DEAD (R157).

A table of fixed length is held as a list of (key, entry) pairs that leaves out every entry equal to what the manual's
reset contents give (Machine/Table.lean reads and writes it in its one canonical form).
-/

namespace Sys2Proof.Machine

/-- A sparse table: keys strictly rising, no entry equal to what an unlisted key reads as. -/
abbrev Table (α : Type) := List (Nat × α)

/-- The backup memory as a list of cells (R158). -/
abbrev Memory := List Host.Cell

/-! ### Inputs -/

/-- The levels of the input pins and of the comparators that no command carries (log entry 4). `true` means the named
condition holds. -/
structure Pins where
  /-- ATNA is low (R120). -/
  atnA : Bool := false
  /-- ATNB is low (R120). -/
  atnB : Bool := false
  /-- CHD is low (R121). -/
  chdLow : Bool := false
  /-- VDD is below the warning level (R175). -/
  vddLow : Bool := false
  /-- The battery comparator finds VBAT below the battery-low level; an absent VBAT samples low whatever it says (R167; log
  entry 24). -/
  vbatLow : Bool := false
  /-- VBAT is present (R174). -/
  vbatPresent : Bool := true
  /-- nRESET is low (R176, R177). -/
  nresetLow : Bool := false
  /-- An oscillator cycle falls in a passing CLK period (R153). -/
  oscCycle : Bool := true
  /-- Bit p: position p's sense line reads active while its drive line is active (R21). -/
  matrix : BitVec 128 := 0
  deriving DecidableEq, Repr

/-- The inputs: the levels now standing, and the levels that later steps will find, one entry a step; when the list is
empty the levels stay as they are (log entry 4). -/
structure Env where
  pins : Pins := {}
  feed : List Pins := []
  deriving DecidableEq, Repr

/-! ### Host port and mailbox (Chapter 1) -/

/-- The host port: the two holding latches (R2, R3) and the byte that the last host read put on D7-D0. -/
structure Port where
  writeLatch : Byte := 0
  readLatch : Byte := 0
  /-- The byte returned by the last host read: the model's own view of the data bus (log entry 7). -/
  dataBus : Byte := 0
  deriving DecidableEq, Repr

/-- The three mailbox states (R9). -/
inductive MailboxState where
  | idle | busy | done
  deriving DecidableEq, Repr

/-- The eight result codes (R15). -/
inductive ResultCode where
  | ok | badCommand | badArgument | full | armed | notValid | locked | parity
  deriving DecidableEq, Repr

/-- The command mailbox: its six parts (section 1.5). -/
structure Mailbox where
  state : MailboxState := .idle
  result : ResultCode := .ok
  /-- ARG0-ARG7 as the host reads and writes them (R14). -/
  args : Row := Row.zero
  /-- The working copy taken at the start of the command (R10). -/
  work : Row := Row.zero
  /-- RES0-RES7 (R13). -/
  res : Row := Row.zero
  /-- While BUSY, the code of the running command; none otherwise (R20). -/
  running : Option Byte := none
  deriving DecidableEq, Repr

/-! ### Operating configuration (section 1.7) -/

/-- The four chord actions (section 3.7). -/
inductive ChordAction where
  | attention | flushMark | hold | hostReset
  deriving DecidableEq, Repr

/-- One chord entry (section 3.7): a requirement `true` is "held". -/
structure Chord where
  shift : Bool := false
  ctrl : Bool := false
  alt : Bool := false
  position : Position := 0
  action : ChordAction := .attention
  enabled : Bool := false
  deriving DecidableEq, Repr

/-- The operating configuration: the twelve fields, as the encoded numbers of section 1.7, and the chord table. The
defaults are the factory defaults. -/
structure OpConfig where
  scanPeriod : Byte := 1
  debounce : Byte := 2
  driveCount : Byte := 16
  repeatDelay : Byte := 1
  repeatInterval : Byte := 4
  repeatThrottle : Byte := 8
  watermark : Byte := 24
  lockMode : Byte := 0
  compose : Byte := 1
  lampMode : Byte := 0
  tickRate : Byte := 0
  chain : Byte := 0
  chords : Vector Chord 4 := Vector.replicate 4 {}
  deriving DecidableEq, Repr

/-! ### Key matrix scanner (Chapter 2) -/

/-- The states of a position (section 2.4). -/
inductive PosState where
  | up
  | pressing (k : Nat)
  | down
  | releasing (k : Nat)
  | blockedGhost
  | blockedRollover
  deriving DecidableEq, Repr

/-- The scanner (section 2.1). The tracked-key count is derived (`trackedCount`). -/
structure Scanner where
  /-- The state of every position; an unlisted position is UP. -/
  positions : Table PosState := []
  /-- The raw image of the latest pass: bit p is 1 for seen down (R22). -/
  raw : BitVec 128 := 0
  /-- The last blocked position, or 0xFF (R32). -/
  lastBlocked : Byte := 0xFF
  /-- The scan timer, in oscillator cycles (R23). -/
  timer : Nat := 0
  /-- The length of the interval being counted, fixed at the timer's restart (R24). -/
  interval : Nat := 256
  /-- A scan pass is ready and has not been taken (R23). -/
  ready : Bool := false
  /-- SCANC: true for RUN (R38). -/
  run : Bool := true
  deriving DecidableEq, Repr

/-! ### Key translation (Chapter 3) -/

/-- The fourteen classes (R41); only KEYPAD carries a digit, which may be absent. -/
inductive KeyClass where
  | plain | letter | keypad (digit : Option (Fin 10))
  | shiftL | shiftR | ctrlL | ctrlR | altL | altR
  | caps | num | scroll | insert | unused
  deriving DecidableEq, Repr

/-- The six modifier classes (R44). -/
inductive ModClass where
  | shiftL | shiftR | ctrlL | ctrlR | altL | altR
  deriving DecidableEq, Repr

/-- One translation entry: its 16-bit value and its parity bit (R42). -/
structure Entry where
  value : Half
  parity : Bool
  deriving DecidableEq, Repr

/-- The lock state (R45). -/
structure Locks where
  caps : Bool := false
  num : Bool := false
  scroll : Bool := false
  insert : Bool := false
  deriving DecidableEq, Repr

/-- Key translation (section 3.1), less the chord table, which is part of the operating configuration. -/
structure Translator where
  /-- The class table; an unlisted position is PLAIN (R43). -/
  classes : Table KeyClass := []
  /-- The translation memory, keyed by position * 5 + column; an unlisted entry is the built-in layout's (R43). -/
  entries : Table Entry := []
  /-- The modifier key list, newest first (R44). -/
  modKeys : List (Position × ModClass) := []
  locks : Locks := {}
  /-- The HELD flag (R61). -/
  held : Bool := false
  /-- The compose accumulator (R56). -/
  acc : Byte := 0
  /-- The compose digit count (R56). -/
  digits : Byte := 0
  /-- The last chord index, 0xFF until the first ATTENTION or FLUSH-MARK (R71). -/
  lastChord : Byte := 0xFF
  /-- The LAMPS register, bits 2-0 (R46). -/
  lampsReg : BitVec 3 := 0
  deriving DecidableEq, Repr

/-! ### Token queue and typematic repeat (Chapter 4) -/

/-- The five record sources (R73). -/
inductive RecordSource where
  | key | repeated | compose | host | marker
  deriving DecidableEq, Repr

/-- MODS of a record (R73). -/
structure Mods where
  shift : Bool
  ctrl : Bool
  alt : Bool
  caps : Bool
  num : Bool
  deriving DecidableEq, Repr

/-- One record of the token queue (R73). -/
structure QRecord where
  token : Half
  source : RecordSource
  position : Option Position
  mods : Option Mods
  deriving DecidableEq, Repr

/-- The token queue: its records, head first, TQLOST and the head latch, where `none` is the empty snapshot (R77). -/
structure Queue where
  records : List QRecord := []
  /-- TQLOST, 0..255 (R75). -/
  lost : Byte := 0
  headLatch : Option QRecord := none
  deriving DecidableEq, Repr

/-- The two counting states of the repeat record (section 4.7). -/
inductive RepeatPhase where
  | delay | repeating
  deriving DecidableEq, Repr

/-- The repeat record: IDLE, or armed with its position, stored record and countdown (section 4.7). -/
inductive Repeat where
  | idle
  | armed (phase : RepeatPhase) (position : Position) (stored : QRecord) (countdown : Nat)
  deriving DecidableEq, Repr

/-! ### Event level controller (Chapter 5) -/

/-- The event level controller. `atnA`, `atnB` are the chain lines as evaluated at the end of the last step (R91). -/
structure Levels where
  /-- Bit n is the latch of source n; only sources 2 to 8 and 11 to 13 have one (R90). -/
  latches : Half := 0
  /-- The routes of sources 0 to 12: a level 0..14, or 15 for OFF (R94, R95). -/
  routes : Vector (BitVec 4) 13 := Vector.replicate 13 15#4
  /-- Bit L is the enable of level L (R98). -/
  enables : Half := 0x8000
  /-- Bit L is the soft request of level L (R99). -/
  soft : Half := 0
  /-- The global switch: true for ON (R100). -/
  switch : Bool := false
  /-- The service stack, top first (R103). -/
  stack : List Level := []
  /-- nINT is asserted (R102). -/
  nint : Bool := false
  atnA : Bool := false
  atnB : Bool := false
  deriving DecidableEq, Repr

/-! ### Identify engine (Chapter 6) -/

/-- The engine states (R113). -/
inductive EngineState where
  | idle | run | done
  deriving DecidableEq, Repr

/-- The two attention classes of the chain. -/
inductive ChainClass where
  | a | b
  deriving DecidableEq, Repr

/-- How a chain cycle that is settling will be completed (R122, R123, R125). -/
inductive ChainOutcome where
  /-- No presence within the answer window. -/
  | timeout
  /-- Presence never released. -/
  | stuck
  /-- Nine bits shifted: the code in bits 8-1, the parity bit in bit 0. -/
  | shifted (bits : BitVec 9)
  deriving DecidableEq, Repr

/-- The phases of a chain cycle (section 6.6.2). -/
inductive ChainPhase where
  | presence | release | shift | settling (outcome : ChainOutcome)
  deriving DecidableEq, Repr

/-- The chain sequencer while a cycle runs: class, phase, CLK periods spent in the phase, bits received. -/
structure ChainCycle where
  cls : ChainClass
  phase : ChainPhase := .presence
  time : Nat := 0
  bits : BitVec 9 := 0
  deriving DecidableEq, Repr

/-- The identify engine (section 6.1) and the levels it sets for the chain outputs, at rest by default (R127); `chainOutputs`
says what stands on the pins (R179). -/
structure Identify where
  state : EngineState := .idle
  /-- The requested level, while RUN. -/
  level : Option Level := none
  /-- IDSRC (R113). -/
  source : Byte := 0x1F
  /-- IDCODE (R113). -/
  code : Byte := 0xFF
  /-- The chain sequencer; none when it is stopped. -/
  cycle : Option ChainCycle := none
  /-- IDG is asserted. -/
  idg : Bool := false
  /-- CHS is high (class B). -/
  chs : Bool := false
  /-- CHC is high. -/
  chc : Bool := true
  deriving DecidableEq, Repr

/-! ### Fault capture (Chapter 7) -/

/-- The ten causes, in the order of their codes 1..10 (R129). -/
inductive FaultCause where
  | backupInvalid | clockHalt | tableParity | chainTimeout | chainData
  | busyViolation | badCommand | badArgument | sequence | identEmpty
  deriving DecidableEq, Repr

/-- The six origins, in the order of their codes 1..6 (R128). -/
inductive FaultOrigin where
  | mailbox | translator | levels | identify | timekeeper | backup
  deriving DecidableEq, Repr

/-- A fault as a block reports it (R129). -/
structure FaultReport where
  cause : FaultCause
  origin : FaultOrigin
  detailA : Byte
  detailB : Byte
  deriving DecidableEq, Repr

/-- The fault record (R128); `none` stands for the code 0. -/
structure FaultRecord where
  cause : Option FaultCause := none
  origin : Option FaultOrigin := none
  detailA : Byte := 0
  detailB : Byte := 0
  /-- LOST, 0..15. -/
  lost : Nat := 0
  locked : Bool := false
  deriving DecidableEq, Repr

/-! ### Timekeeper (Chapter 8), battery domain -/

/-- The alarm record (section 8.6); `none` is ANY. -/
structure Alarm where
  hour : Option Nat := none
  minute : Option Nat := none
  second : Option Nat := none
  oneShot : Bool := false
  armed : Bool := false
  deriving DecidableEq, Repr

/-- The calendar (R141). -/
structure Calendar where
  second : Nat := 0
  minute : Nat := 0
  hour : Nat := 0
  day : Nat := 1
  month : Nat := 1
  year : Nat := 0
  weekday : Nat := 0
  deriving DecidableEq, Repr

/-- The timekeeper's state in the battery domain (section 8.1); the defaults are those of R157. -/
structure Timekeeper where
  cal : Calendar := {}
  /-- The sub-second counter, 0..63. -/
  sub : Nat := 0
  /-- Oscillator cycles counted in the current tick interval (R139). -/
  prescaler : Nat := 0
  /-- The length of the current tick interval, fixed at its start (R139, R152). -/
  interval : Nat := 512
  /-- The adjust value as a signed byte (R152). -/
  adjust : Byte := 0
  /-- The adjust second counter, 0..63 (R152). -/
  adjSecond : Nat := 0
  alarm : Alarm := {}
  timeSet : Bool := false
  dateSet : Bool := false
  /-- The wake flag, which drives nWAKE (R149). -/
  wake : Bool := false
  deriving DecidableEq, Repr

/-- The halt detector, in the main domain (R153). -/
inductive Detector where
  | watching (count : Nat)
  | halted
  deriving DecidableEq, Repr

/-! ### Supervisor (Chapter 10) -/

/-- The watchdog states (R169). -/
inductive WatchdogState where
  | disabled | armed | warned
  deriving DecidableEq, Repr

/-- The watchdog; its lock is set in every state except DISABLED (R169). -/
structure Watchdog where
  state : WatchdogState := .disabled
  count : Nat := 0
  /-- The active period code, 0..3. -/
  active : BitVec 2 := 0
  /-- The pending period code, 0..3. -/
  pending : BitVec 2 := 0
  deriving DecidableEq, Repr

/-- The four power states (section "Supply domains"). -/
inductive PowerState where
  | mainOn | brownOut | batteryOnly | dead
  deriving DecidableEq, Repr

/-- The reset reasons, in the order of their codes 1..7 (R176). -/
inductive ResetReason where
  | cold | powerOn | brownOut | pin | soft | watchdog | chord
  deriving DecidableEq, Repr

/-- Where the reset sequencer stands: no reset in progress; held in reset (part 1 of a sequence, BROWN-OUT and the
unpowered states); after part 7, nHRST still asserted (R177 to R180). -/
inductive ResetPhase where
  | run | held | stretch
  deriving DecidableEq, Repr

/-- The supervisor: power state, reset sequencer, power monitor, and the flags DEFAULTS and BATLOW of Chapter 9. -/
structure Supervisor where
  power : PowerState := .mainOn
  phase : ResetPhase := .run
  /-- The reason of the reset in progress or last carried out; none before the reason is known. -/
  reason : Option ResetReason := some .pin
  /-- A reset request of this LSI itself, ready and not yet taken (R181). -/
  request : Option ResetReason := none
  /-- Ticks and CLK periods counted in the stretch of nHRST (R180). -/
  stretchTicks : Nat := 0
  stretchClks : Nat := 0
  /-- The latest sample of the warning comparator, GSTAT.PWRLOW (R175). -/
  pwrLow : Bool := false
  /-- The last battery sample, GSTAT.BATLOW (R167). -/
  batLow : Bool := false
  /-- GSTAT.DEFAULTS (R160). -/
  defaults : Bool := false
  /-- The cold marker, in the battery domain (R176). -/
  coldMarker : Bool := false
  /-- VDD has been absent since the power state was last MAIN-ON (R174). -/
  vddLost : Bool := false
  detector : Detector := .watching 0
  /-- A halt detection is ready and has not been taken (R153, R154). -/
  haltReady : Bool := false
  /-- The oscillator check of a full reset: a cycle has been seen since part 1 began (R155). -/
  oscSeen : Bool := false
  /-- The oscillator check found HALTED: second field and sub-second counter then (R155). -/
  oscHalt : Option (Byte × Byte) := none
  /-- A supervisory event has cut a step short and is still to be taken (R7, R177). -/
  cutShort : Bool := false
  deriving DecidableEq, Repr

/-! ### The whole -/

/-- The state of the GZ4. -/
structure State where
  /-- The commands waiting, first in, first out. -/
  pending : List Instr
  env : Env
  port : Port
  mb : Mailbox
  cfg : OpConfig
  scan : Scanner
  tr : Translator
  tq : Queue
  rep : Repeat
  lv : Levels
  id : Identify
  fault : FaultRecord
  tk : Timekeeper
  mem : Memory
  wd : Watchdog
  sup : Supervisor
  /-- How often the battery domain has started from DEAD: the model's own counter, read by the free value
  `Config.lostByte` (log entry 3). -/
  starts : Nat
  deriving DecidableEq, Repr

/-- The machine right after a full reset that reported no fault, at the release of nHRST (log entry 1): every main-domain
block at its reset value, the configuration at the factory image, the timekeeper as R157 gives it, and the backup memory
as the validation rewrite leaves it (an unlisted cell reads so, R160) with the reset record of a PIN reset that followed
the COLD one (R162): last reason 4, previous reason 1, checksum fixed. -/
def State.reset : State where
  pending := []
  env := {}
  port := {}
  mb := {}
  cfg := {}
  scan := {}
  tr := {}
  tq := {}
  rep := .idle
  lv := {}
  id := {}
  fault := {}
  tk := {}
  mem := [(58, 4#8), (59, 1#8), (63, 0x1C#8)]
  wd := {}
  sup := {}
  starts := 0

/-- Reasons for which the machine stops with a fault. There is none: the manual gives every command its outcome, and what
it calls a fault is captured in the fault record of State and stops nothing (section 7.1). An empty type is safe: no
claim can rest on a stop that the hardware does not make. -/
inductive Fault where
  deriving DecidableEq, Repr

/-- Reasons for which a command is refused. -/
inductive Refusal where
  /-- Raised by an arm of `exec` for a command without a meaning; no arm does so. Safe: nothing is claimed of such a
  command. -/
  | notModelled (mnemonic : String)
  deriving DecidableEq, Repr

end Sys2Proof.Machine
end

