-- ==== Sys2Proof/Machine/Table.lean ====
section
/-!
DEFINITION. Machine/Table.lean: reading and writing the sparse tables of State. A table is given with what an unlisted key
reads as (`dflt`). A write keeps the keys strictly rising and lists no entry equal to its default, so that equal contents
are equal lists.
-/

namespace Sys2Proof.Machine

variable {α : Type}

/-- The entry at key `k`. -/
def Table.get (dflt : Nat → α) : Table α → Nat → α
  | [], k => dflt k
  | (a, v) :: r, k => if a = k then v else Table.get dflt r k

/-- The table with the entry at key `k` replaced by `v`. -/
def Table.set [DecidableEq α] (dflt : Nat → α) : Table α → Nat → α → Table α
  | [], k, v => if v = dflt k then [] else [(k, v)]
  | (a, w) :: r, k, v =>
    if k < a then (if v = dflt k then (a, w) :: r else (k, v) :: (a, w) :: r)
    else if k = a then (if v = dflt k then r else (k, v) :: r)
    else (a, w) :: Table.set dflt r k v

/-- All keys of the table are at least `n` and strictly rising, and no entry equals its default. -/
def Table.wfFrom [DecidableEq α] (dflt : Nat → α) : Nat → Table α → Bool
  | _, [] => true
  | n, (a, v) :: r => decide (n ≤ a) && decide (v ≠ dflt a) && Table.wfFrom dflt (a + 1) r

/-- The canonical form: keys strictly rising, no entry equal to its default, every key below `size`. -/
def Table.wf [DecidableEq α] (dflt : Nat → α) (size : Nat) (t : Table α) : Bool :=
  Table.wfFrom dflt 0 t && t.all (fun c => decide (c.1 < size))

end Sys2Proof.Machine
end

