-- ==== Sys2Proof/Machine/Operands.lean ====
section
/-!
DEFINITION. Machine/Operands.lean: the codes and encodings through which the host and the image see the state: result
codes, class codes, configuration fields, chord bytes, record bytes, fault codes, source numbers, and what an unlisted
entry of each table reads as.
-/

namespace Sys2Proof.Machine

/-- A flag as bit `n` of a byte. -/
def bitAt (n : Nat) (b : Bool) : Byte := if b then 1#8 <<< n else 0#8

/-- The low byte of a 16-bit value (section 1.2.1). -/
def lowByte (v : Half) : Byte := v.setWidth 8

/-- The high byte of a 16-bit value (section 1.2.1). -/
def highByte (v : Half) : Byte := v.extractLsb' 8 8

/-! ### Mailbox codes -/

/-- The code of a mailbox state in MBSTS bits 5-4 (R9). -/
def mailboxStateCode : MailboxState → Byte
  | .idle => 0
  | .busy => 1
  | .done => 2

/-- The result codes 0..7 (R15). Which of them capture a fault is R15's table, 1, 2 and 7; its opening sentence counts four
(log entry 26). -/
def resultCode : ResultCode → Byte
  | .ok => 0
  | .badCommand => 1
  | .badArgument => 2
  | .full => 3
  | .armed => 4
  | .notValid => 5
  | .locked => 6
  | .parity => 7

/-- The command codes of section 1.6, each with the mailbox command step that it starts. -/
def commandTable : List (Byte × Instr) :=
  [(0x01, .echo), (0x02, .resetDevice),
   (0x10, .loadEntry), (0x11, .readEntry), (0x12, .setClass), (0x13, .readClass), (0x14, .restoreLayout),
   (0x15, .setChord), (0x16, .readChord), (0x17, .setLocks), (0x18, .readKeystate), (0x19, .endHold),
   (0x20, .insert), (0x21, .flush), (0x30, .setRoute), (0x31, .readRoute),
   (0x40, .setTime none), (0x41, .setDate none), (0x42, .readTime), (0x43, .setAlarm none),
   (0x44, .clearAlarm none), (0x45, .readAlarm), (0x46, .setAdjust none),
   (0x50, .backupRead), (0x51, .backupWrite none), (0x52, .readResetRecord), (0x53, .clearResetRecord none),
   (0x60, .setConfig), (0x61, .readConfig), (0x62, .saveConfig none), (0x63, .loadConfig), (0x70, .watchdogSet)]

/-- The mailbox command step that a code names, if it names one (section 1.6). -/
def commandOf (code : Byte) : Option Instr := (commandTable.find? (fun r => r.1 == code)).map (·.2)

/-! ### Classes (R41) -/

/-- The class code 0..13 (R41). -/
def classCode : KeyClass → Byte
  | .plain => 0
  | .letter => 1
  | .keypad _ => 2
  | .shiftL => 3
  | .shiftR => 4
  | .ctrlL => 5
  | .ctrlR => 6
  | .altL => 7
  | .altR => 8
  | .caps => 9
  | .num => 10
  | .scroll => 11
  | .insert => 12
  | .unused => 13

/-- The digit byte of a class-table record: 0xFF when absent (R41). -/
def classDigit : KeyClass → Byte
  | .keypad (some d) => byteOf d.val
  | _ => 0xFF

/-- The record that a class code 0..13 and a digit byte stand for (R65). -/
def classOfCode (code digit : Byte) : KeyClass :=
  match code.toNat with
  | 0 => .plain
  | 1 => .letter
  | 2 => .keypad (if h : digit.toNat < 10 then some ⟨digit.toNat, h⟩ else none)
  | 3 => .shiftL
  | 4 => .shiftR
  | 5 => .ctrlL
  | 6 => .ctrlR
  | 7 => .altL
  | 8 => .altR
  | 9 => .caps
  | 10 => .num
  | 11 => .scroll
  | 12 => .insert
  | _ => .unused

/-- The modifier class of a class, if it is one (R41, R44). -/
def modifierOf : KeyClass → Option ModClass
  | .shiftL => some .shiftL
  | .shiftR => some .shiftR
  | .ctrlL => some .ctrlL
  | .ctrlR => some .ctrlR
  | .altL => some .altL
  | .altR => some .altR
  | _ => none

/-- An unlisted position of the class table is PLAIN with no digit (R43). -/
def builtInClass (_ : Nat) : KeyClass := .plain

/-- An unlisted position of the scanner is UP (R40). -/
def builtInPos (_ : Nat) : PosState := .up

/-! ### Translation entries (R42, R43) -/

/-- The number of ones among the 16 value bits. -/
def onesIn (v : Half) : Nat := (List.range 16).countP (fun i => v.getLsbD i)

/-- The parity bit that makes the 17 stored bits hold an odd number of ones (R42). -/
def freshParity (v : Half) : Bool := onesIn v % 2 == 0

/-- An entry as this LSI writes it (R42). -/
def freshEntry (v : Half) : Entry := ⟨v, freshParity v⟩

/-- The parity check of a read: the 17 stored bits hold an odd number of ones (R42). -/
def parityGood (e : Entry) : Bool := e.parity == freshParity e.value

/-- A void entry has a value of 0x8000 or greater (R42). -/
def isVoid (v : Half) : Bool := v.getLsbD 15

/-- The key of an entry in the table: position and column 0..4 (R42). -/
def entryKey (position column : Nat) : Nat := position * 5 + column

/-- The position-code layout (R43): NORMAL, SHIFT, CTRL and ALT hold column code and position, LOCK is void. -/
def builtInEntry (key : Nat) : Entry :=
  freshEntry (if key % 5 = 4 then 0x8000#16 else BitVec.ofNat 16 ((key % 5 + 1) * 256 + key / 5))

/-! ### Configuration fields (section 1.7) -/

/-- The factory default of field `id` (section 1.7). -/
def fieldDefault : Nat → Byte
  | 1 => 1
  | 2 => 2
  | 3 => 16
  | 4 => 1
  | 5 => 4
  | 6 => 8
  | 7 => 24
  | 9 => 1
  | _ => 0

/-- The Values range of field `id` (section 1.7). -/
def fieldInRange (id : Nat) (v : Byte) : Bool :=
  match id with
  | 1 => decide (v.toNat ≤ 2)
  | 2 => decide (1 ≤ v.toNat) && decide (v.toNat ≤ 4)
  | 3 => decide (8 ≤ v.toNat) && decide (v.toNat ≤ 16)
  | 4 => decide (v.toNat ≤ 3)
  | 5 => decide (2 ≤ v.toNat) && decide (v.toNat ≤ 63)
  | 6 => decide (v.toNat ≤ 32)
  | 7 => decide (1 ≤ v.toNat) && decide (v.toNat ≤ 32)
  | 8 => decide (v.toNat ≤ 1)
  | 9 => decide (v.toNat ≤ 1)
  | 10 => decide (v.toNat ≤ 1)
  | 11 => decide (v.toNat ≤ 4)
  | 12 => decide (v.toNat ≤ 1)
  | _ => false

/-- The value of field `id` (section 1.7). -/
def fieldGet (c : OpConfig) : Nat → Byte
  | 1 => c.scanPeriod
  | 2 => c.debounce
  | 3 => c.driveCount
  | 4 => c.repeatDelay
  | 5 => c.repeatInterval
  | 6 => c.repeatThrottle
  | 7 => c.watermark
  | 8 => c.lockMode
  | 9 => c.compose
  | 10 => c.lampMode
  | 11 => c.tickRate
  | 12 => c.chain
  | _ => 0

/-- The configuration with field `id` set to `v` (section 1.7). -/
def fieldSet (c : OpConfig) (id : Nat) (v : Byte) : OpConfig :=
  match id with
  | 1 => { c with scanPeriod := v }
  | 2 => { c with debounce := v }
  | 3 => { c with driveCount := v }
  | 4 => { c with repeatDelay := v }
  | 5 => { c with repeatInterval := v }
  | 6 => { c with repeatThrottle := v }
  | 7 => { c with watermark := v }
  | 8 => { c with lockMode := v }
  | 9 => { c with compose := v }
  | 10 => { c with lampMode := v }
  | 11 => { c with tickRate := v }
  | 12 => { c with chain := v }
  | _ => c

/-- The scan period in oscillator cycles (R23). -/
def scanCycles (c : OpConfig) : Nat :=
  match c.scanPeriod.toNat with
  | 0 => 128
  | 1 => 256
  | _ => 512

/-- The repeat delay in ticks (section 1.7, R84). -/
def delayTicks (c : OpConfig) : Nat := (c.repeatDelay.toNat + 1) * 16

/-! ### Chord entries (R67, R159) -/

/-- The action codes (R67). -/
def actionCode : ChordAction → Byte
  | .attention => 0
  | .flushMark => 1
  | .hold => 2
  | .hostReset => 3

/-- The action that the low two bits of a byte name (R67). -/
def actionOf (b : Byte) : ChordAction :=
  match b.toNat % 4 with
  | 0 => .attention
  | 1 => .flushMark
  | 2 => .hold
  | _ => .hostReset

/-- The requirements byte of a chord entry, in the form of ARG1 of SET-CHORD (R67). -/
def requirementsByte (c : Chord) : Byte := bitAt 0 c.shift ||| bitAt 1 c.ctrl ||| bitAt 2 c.alt

/-- The position that a byte 0..127 names. -/
def positionOf (b : Byte) : Position := Fin.ofNat 128 b.toNat

/-- The chord entry that the bytes of SET-CHORD describe (R67). -/
def chordOf (requirements position action : Byte) (enabled : Bool) : Chord where
  shift := requirements.getLsbD 0
  ctrl := requirements.getLsbD 1
  alt := requirements.getLsbD 2
  position := positionOf position
  action := actionOf action
  enabled := enabled

/-! ### The configuration image and the factory memory (R158 to R160) -/

/-- The byte at image offset 0..23 (address 34 to 57) that encodes the configuration (R159). -/
def imageByte (c : OpConfig) (offset : Nat) : Byte :=
  if offset < 12 then fieldGet c (offset + 1)
  else
    let chord := c.chords.getD ((offset - 12) / 3) {}
    match (offset - 12) % 3 with
    | 0 => requirementsByte chord
    | 1 => byteOf chord.position.val
    | _ => bitAt 7 chord.enabled ||| actionCode chord.action

/-- The memory as the validation rewrite leaves it, which is what an unlisted cell reads as: host area and reset record
zero, the factory image, checksum 0x21 (R160). -/
def factoryByte (address : Nat) : Byte :=
  if 34 ≤ address ∧ address < 58 then imageByte {} (address - 34)
  else if address = 63 then 0x21
  else 0

/-- The backup memory's canonical form (R158: addresses 0 to 63). -/
def Memory.wf (m : Memory) : Bool := Table.wf factoryByte 64 m

/-! ### Records, faults and reasons -/

/-- SOURCE in TQHINF bits 2-0 (R78). -/
def recordSourceCode : RecordSource → Byte
  | .key => 1
  | .repeated => 2
  | .compose => 3
  | .host => 4
  | .marker => 5

/-- MODS in TQHINF bits 7-3; 0 when absent (R78). -/
def modsBits : Option Mods → Byte
  | none => 0
  | some m => bitAt 3 m.shift ||| bitAt 4 m.ctrl ||| bitAt 5 m.alt ||| bitAt 6 m.caps ||| bitAt 7 m.num

/-- The cause codes 1..10; 0 for none (R128, R129). -/
def causeCode : Option FaultCause → Byte
  | none => 0
  | some .backupInvalid => 1
  | some .clockHalt => 2
  | some .tableParity => 3
  | some .chainTimeout => 4
  | some .chainData => 5
  | some .busyViolation => 6
  | some .badCommand => 7
  | some .badArgument => 8
  | some .sequence => 9
  | some .identEmpty => 10

/-- The origin codes 1..6; 0 for none (R128). -/
def originCode : Option FaultOrigin → Byte
  | none => 0
  | some .mailbox => 1
  | some .translator => 2
  | some .levels => 3
  | some .identify => 4
  | some .timekeeper => 5
  | some .backup => 6

/-- The reset reason codes 1..7 (R176). -/
def reasonCode : ResetReason → Byte
  | .cold => 1
  | .powerOn => 2
  | .brownOut => 3
  | .pin => 4
  | .soft => 5
  | .watchdog => 6
  | .chord => 7

/-- The merge of two reset requests: the reason with the lower code, and with it the full kind if either is full (R176). -/
def mergeReason (a b : ResetReason) : ResetReason := if (reasonCode a).toNat ≤ (reasonCode b).toNat then a else b

/-- The merge of a request with the reset in progress, if there is one (R176). -/
def mergeWith (inProgress : Option ResetReason) (r : ResetReason) : ResetReason :=
  match inProgress with
  | none => r
  | some q => mergeReason q r

/-- The count byte of the reset record that a reason increases (R162). -/
def countAddress : ResetReason → Option Nat
  | .watchdog => some 60
  | .brownOut => some 61
  | .chord => some 62
  | _ => none

/-! ### Sources (section 5.2) -/

/-- The latched sources, by name (section 5.2). -/
inductive Latch where
  | queueOverflow | attentionChord | hold | matrix | alarm | tick | dayChange | commandDone | powerLow | watchdog
  deriving DecidableEq, Repr

/-- The source number of a latched source (section 5.2). -/
def latchNumber : Latch → Nat
  | .queueOverflow => 2
  | .attentionChord => 3
  | .hold => 4
  | .matrix => 5
  | .alarm => 6
  | .tick => 7
  | .dayChange => 8
  | .commandDone => 11
  | .powerLow => 12
  | .watchdog => 13

/-- The bit of a latched source in the latch word. -/
def latchBit (l : Latch) : Half := 1#16 <<< latchNumber l

/-- The mask of the latched sources 2 to 8 and 11 to 13 (R90). -/
def latchedMask : Half := 0x39FC#16

/-- The source number of a chain class (R121). -/
def chainSource : ChainClass → Byte
  | .a => 9
  | .b => 10

/-- The class as detail A of a chain fault (R121). -/
def chainClassByte : ChainClass → Byte
  | .a => 0
  | .b => 1

/-- The watchdog period in ticks (R169). -/
def watchdogTicks (code : BitVec 2) : Nat := 32 * 2 ^ code.toNat

/-- The watchdog state as RES0 of WATCHDOG-SET (R171). -/
def watchdogCode : WatchdogState → Byte
  | .disabled => 0
  | .armed => 1
  | .warned => 2

/-- The length of a month (R141). -/
def monthLength (year month : Nat) : Nat :=
  if month = 2 then (if year % 4 = 0 then 29 else 28)
  else if month = 4 ∨ month = 6 ∨ month = 9 ∨ month = 11 then 30
  else 31

/-- An alarm field as READ-ALARM returns it: 0xFF for ANY (R147). -/
def alarmByte : Option Nat → Byte
  | none => 0xFF
  | some n => byteOf n

/-- The alarm field that an argument byte names: 0xFF is ANY (R146). -/
def alarmField (b : Byte) : Option Nat := if b = 0xFF then none else some b.toNat

end Sys2Proof.Machine
end

