-- ==== Sys2Proof/Machine/Flags.lean ====
section
/-!
DEFINITION. Machine/Flags.lean: everything the manual derives afresh from the state: which steps may be taken, the live
sources, pending and eligible levels, the held set, the tracked-key count, the summary flags, and the output pins that
follow the state.
-/

namespace Sys2Proof.Machine

/-! ### Which steps may be taken -/

/-- The main domain is running and takes steps: MAIN-ON, not held in reset, no reset request of its own ready to be taken
before everything else, and no supervisory event that cut a step short still to come (R5, R7, R179, R181; log entry 9). -/
def mainRunning (s : State) : Bool :=
  s.sup.power == .mainOn && s.sup.phase != .held && s.sup.request == none && !s.sup.cutShort

/-- nHRST is asserted from the moment a reset begins until its release, and through BROWN-OUT; without VDD it is not driven
(R179, R180). -/
def hostResetAsserted (s : State) : Bool :=
  s.sup.power == .brownOut || (s.sup.power == .mainOn && s.sup.phase != .run)

/-- Host accesses take effect: the main domain runs and nHRST is released (R1). -/
def portOpen (s : State) : Bool := mainRunning s && s.sup.phase == .run

/-- The mailbox command step of `code` is ready (R10). -/
def commandReady (code : Byte) (s : State) : Bool :=
  mainRunning s && s.mb.state == .busy && s.mb.running == some code

/-- A mailbox command step whose running code names no command is ready (R12). -/
def badCommandReady (s : State) : Bool :=
  mainRunning s && s.mb.state == .busy && s.mb.running.any (fun c => commandOf c == none)

/-- A timebase tick can occur: the battery domain is supplied and the oscillator is not known to be stopped (R139, R154). -/
def oscillatorRuns (s : State) : Bool :=
  s.sup.power != .dead && !(s.sup.power == .mainOn && s.sup.detector == .halted)

/-- A scan pass can become ready: scanning has been started and runs, and the oscillator is not halted (R23, R39, R40). -/
def scanRuns (s : State) : Bool := portOpen s && s.scan.run && oscillatorRuns s

/-- A selection step is ready (R114): the engine is in RUN and no chain cycle has been started. -/
def selectionReady (s : State) : Bool := mainRunning s && s.id.state == .run && s.id.cycle == none

/-- The chain cycle under way, if the engine can go on with it (R121, R126). -/
def runningCycle (s : State) : Option ChainCycle :=
  if mainRunning s && s.id.state == .run then s.id.cycle else none

/-! ### Sources and levels (Chapter 5) -/

/-- The queue count (R72). -/
def queueCount (s : State) : Nat := s.tq.records.length

/-- The live conditions as bits of the source word: QUEUE-READY, WATERMARK, CHAIN-A, CHAIN-B, FAULT (R83, R120, R136). -/
def liveWord (s : State) : Half :=
  (if 1 ≤ queueCount s then 1#16 <<< 0 else 0) |||
  (if s.cfg.watermark.toNat ≤ queueCount s then 1#16 <<< 1 else 0) |||
  (if s.cfg.chain == 1 && s.lv.atnA then 1#16 <<< 9 else 0) |||
  (if s.cfg.chain == 1 && s.lv.atnB then 1#16 <<< 10 else 0) |||
  (if s.fault.locked then 1#16 <<< 14 else 0)

/-- SRCLT: latches and live conditions, bit n for source n (R92). -/
def sourceWord (s : State) : Half := s.lv.latches ||| liveWord s

/-- Source `n` is active (section 5.2). -/
def sourceActive (s : State) (n : Nat) : Bool := (sourceWord s).getLsbD n

/-- A programmable source routed to the level is active (R94). -/
def routedActive (s : State) (l : Level) : Bool :=
  (List.finRange 13).any (fun n => s.lv.routes[n].toNat == l.val && sourceActive s n.val)

/-- A level is pending: its soft request is set or an active source contributes to it; to level 15 contribute sources 13
and 14 and no other (R97). -/
def levelPending (s : State) (l : Level) : Bool :=
  s.lv.soft.getLsbD l.val ||
  (if l = 15 then sourceActive s 13 || sourceActive s 14 else routedActive s l)

/-- A 16-bit word from a condition for each bit. -/
def wordOf (f : Level → Bool) : Half :=
  (List.finRange 16).foldl (fun w l => if f l then w ||| (1#16 <<< l.val) else w) 0#16

/-- LVPND: bit L for pending level L (R97). -/
def pendingWord (s : State) : Half := wordOf (levelPending s)

/-- The level is above the top of the service stack, or the stack is empty (R101, condition 4). -/
def aboveTop (s : State) (l : Level) : Bool :=
  match s.lv.stack with
  | [] => true
  | top :: _ => decide (top < l)

/-- The four conditions of eligibility (R101). -/
def eligible (s : State) (l : Level) : Bool :=
  levelPending s l && s.lv.enables.getLsbD l.val && (s.lv.switch || decide (l = 15)) && aboveTop s l

/-- The highest eligible level (R101). -/
def highestEligible (s : State) : Option Level := (List.finRange 16).reverse.find? (eligible s)

/-- nINT as a step leaves it: asserted exactly while a level is eligible, and released while the main domain is held in
reset or nHRST is asserted (R102). -/
def interruptLine (s : State) : Bool :=
  s.sup.power == .mainOn && s.sup.phase == .run && (highestEligible s).isSome

/-! ### Translation (Chapter 3) -/

/-- The class of a position (R41). -/
def classOf (s : State) (p : Position) : KeyClass := Table.get builtInClass s.tr.classes p.val

/-- A modifier class is in the held set (R44). -/
def heldClass (s : State) (m : ModClass) : Bool := s.tr.modKeys.any (fun k => k.2 == m)

/-- *shift* (R44). -/
def shiftHeld (s : State) : Bool := heldClass s .shiftL || heldClass s .shiftR

/-- *ctrl* (R44). -/
def ctrlHeld (s : State) : Bool := heldClass s .ctrlL || heldClass s .ctrlR

/-- *alt* (R44). -/
def altHeld (s : State) : Bool := heldClass s .altL || heldClass s .altR

/-- MODS as they stand (R57, R60). -/
def currentMods (s : State) : Mods where
  shift := shiftHeld s
  ctrl := ctrlHeld s
  alt := altHeld s
  caps := s.tr.locks.caps
  num := s.tr.locks.num

/-- The three lamp outputs, LAMP0 in bit 0: the toggles in AUTO, the LAMPS register in HOST, unlit while the main domain is
held in reset (R46, R179). -/
def lampOutputs (s : State) : BitVec 3 :=
  if s.sup.power != .mainOn || s.sup.phase == .held then 0
  else if s.cfg.lampMode == 0 then
    (bitAt 0 s.tr.locks.caps ||| bitAt 1 s.tr.locks.num ||| bitAt 2 s.tr.locks.scroll).setWidth 3
  else s.tr.lampsReg

/-- The lock state in RES0 of READ-KEYSTATE (R69). -/
def locksByte (l : Locks) : Byte := bitAt 0 l.caps ||| bitAt 1 l.num ||| bitAt 2 l.scroll ||| bitAt 3 l.insert

/-- The held set in RES1 of READ-KEYSTATE (R69). -/
def heldByte (s : State) : Byte :=
  bitAt 0 (heldClass s .shiftL) ||| bitAt 1 (heldClass s .shiftR) ||| bitAt 2 (heldClass s .ctrlL) |||
  bitAt 3 (heldClass s .ctrlR) ||| bitAt 4 (heldClass s .altL) ||| bitAt 5 (heldClass s .altR)

/-- The position of the armed repeat, or 0xFF (R69). -/
def repeatPosition : Repeat → Byte
  | .idle => 0xFF
  | .armed _ p _ _ => byteOf p.val

/-! ### Scanner (Chapter 2) -/

/-- The state of a position (section 2.4). -/
def posOf (t : Table PosState) (p : Position) : PosState := Table.get builtInPos t p.val

/-- Tracked keys are the positions in DOWN or RELEASING (section 2.4). -/
def isTracked : PosState → Bool
  | .down => true
  | .releasing _ => true
  | _ => false

/-- The number of tracked positions in a table of states (section 2.4). -/
def trackedIn (t : Table PosState) : Nat := (List.finRange 128).countP (fun p => isTracked (posOf t p))

/-- The tracked-key count (section 2.4). -/
def trackedCount (s : State) : Nat := trackedIn s.scan.positions

/-- A battery sample of these inputs finds the battery low: below its level, or absent (R167). -/
def batteryLow (p : Pins) : Bool := p.vbatLow || !p.vbatPresent

/-- The drive outputs: every one is inactive between passes, while scanning is stopped and while the main domain is held
in reset (R21, R179), and no step ends inside a pass. -/
def driveOutputs (_ : State) : BitVec 16 := 0

/-! ### Chain outputs (Chapter 6) -/

/-- The levels that this LSI drives on its chain outputs: IDG asserted, CHS high, CHC high. -/
structure ChainOutputs where
  idg : Bool
  chs : Bool
  chc : Bool
  deriving DecidableEq, Repr

/-- The chain outputs at rest (R127). -/
def chainAtRest : ChainOutputs := { idg := false, chs := false, chc := true }

/-- The main domain is supplied from VDD: MAIN-ON or BROWN-OUT (R174). -/
def mainPowered (s : State) : Bool := s.sup.power == .mainOn || s.sup.power == .brownOut

/-- The main domain is held in reset: part 1 of a sequence, and BROWN-OUT (R179). -/
def heldInReset (s : State) : Bool := s.sup.power == .brownOut || s.sup.phase == .held

/-- What this LSI drives on the chain: nothing in BATTERY-ONLY and DEAD, the outputs at rest while the main domain is held in
reset, and otherwise what the chain sequencer has set (R121 to R124, R179). -/
def chainOutputs (s : State) : Option ChainOutputs :=
  if !mainPowered s then none
  else if heldInReset s then some chainAtRest
  else some { idg := s.id.idg, chs := s.id.chs, chc := s.id.chc }

/-! ### Timekeeper and outputs (Chapters 8 and 10) -/

/-- CLKVALID (R144). -/
def clockValid (s : State) : Bool := s.tk.timeSet && s.tk.dateSet

/-- nWAKE is driven low (R149): the wake flag is set, in every power state except DEAD. -/
def wakeOutput (s : State) : Bool := s.tk.wake && s.sup.power != .dead

/-- The watchdog's lock (R169). -/
def watchdogLocked (w : Watchdog) : Bool := w.state != .disabled

/-- GSTAT (R8). -/
def statusByte (s : State) : Byte :=
  bitAt 7 s.lv.nint ||| bitAt 6 s.sup.pwrLow ||| bitAt 5 s.tr.held ||| bitAt 4 s.sup.batLow |||
  bitAt 3 (clockValid s) ||| bitAt 2 s.sup.defaults ||| bitAt 1 (s.id.state == .run) ||| bitAt 0 (s.mb.state == .busy)

end Sys2Proof.Machine
end

