-- ==== Sys2Proof/Machine/Ops.lean ====
section
/-!
DEFINITION. Machine/Ops.lean: the operations that the meanings share: the start and the end of a step, source latches,
fault capture, offering a record, the completion of a mailbox command and its argument checks, host accesses, the backup
memory and its checksum, cancelling the repeat, reset requests and the reset values of the main domain.
-/

namespace Sys2Proof.Machine

/-! ### The start and the end of a step -/

/-- At its start a step finds the input levels then standing (log entry 4). -/
def samplePins (s : State) : State :=
  match s.env.feed with
  | [] => s
  | p :: rest => { s with env := { pins := p, feed := rest } }

/-- The latch of a source is set; a latch already set stays set (R90). -/
def setLatch (l : Latch) (s : State) : State :=
  { s with lv := { s.lv with latches := s.lv.latches ||| latchBit l } }

/-- The latches selected by a mask are cleared (R90, R93). -/
def clearLatches (mask : Half) (s : State) : State :=
  { s with lv := { s.lv with latches := s.lv.latches &&& ~~~mask } }

/-- The power monitor's sample at the end of a step: a fall below the warning level since the previous sample sets the
POWER-LOW latch (R175). -/
def samplePower (s : State) : State :=
  let s' := if s.env.pins.vddLow && !s.sup.pwrLow then setLatch .powerLow s else s
  { s' with sup := { s'.sup with pwrLow := s.env.pins.vddLow } }

/-- The chain lines as the step finds them at its end (R91). -/
def sampleChain (s : State) : State :=
  { s with lv := { s.lv with atnA := s.env.pins.atnA, atnB := s.env.pins.atnB } }

/-- nINT is set from the state that the step left (R102). -/
def setInterruptLine (s : State) : State := { s with lv := { s.lv with nint := interruptLine s } }

/-- The end of every step: the power monitor's sample and the evaluation of the live sources while the main domain is not
held in reset, then nINT (R4, R91, R102, R175). -/
def endStep (s : State) : State :=
  setInterruptLine
    (if s.sup.power == .mainOn && s.sup.phase != .held then sampleChain (samplePower s) else s)

/-- A whole step: `body` between the start and the end. -/
def stepOf (body : State → State) (s : State) : State := endStep (body (samplePins s))

/-! ### Fault capture (Chapter 7) -/

/-- Of the faults of one step, the one captured: the lowest cause code, and among equals the first reported (R132). -/
def firstFault : FaultReport → List FaultReport → FaultReport
  | best, [] => best
  | best, f :: rest =>
    firstFault (if causeCode (some f.cause) < causeCode (some best.cause) then f else best) rest

/-- The fault record after the faults of one step, in the order in which they were reported (R130 to R132). -/
def captureInto (r : FaultRecord) : List FaultReport → FaultRecord
  | [] => r
  | f :: rest =>
    if r.locked then { r with lost := min 15 (r.lost + (rest.length + 1)) }
    else
      let best := firstFault f rest
      { cause := some best.cause, origin := some best.origin, detailA := best.detailA, detailB := best.detailB,
        lost := min 15 rest.length, locked := true }

/-- The faults of one step are captured together (R132). -/
def captureAll (faults : List FaultReport) (s : State) : State := { s with fault := captureInto s.fault faults }

/-- One fault is captured (R130, R131). -/
def capture (f : FaultReport) (s : State) : State := captureAll [f] s

/-! ### The mailbox (Chapter 1) -/

/-- The completion of a command (R13): all eight result bytes, the result code, DONE, and the COMMAND-DONE latch. -/
def complete (r : ResultCode) (out : Row) (s : State) : State :=
  setLatch .commandDone { s with mb := { s.mb with res := out, result := r, state := .done, running := none } }

/-- Completion with OK and all result bytes 0x00. -/
def completeOk (s : State) : State := complete .ok Row.zero s

/-- The code of the running command (R10). -/
def runningCode (s : State) : Byte := s.mb.running.getD 0

/-- Completion with BAD-ARGUMENT and its fault: detail A the command code, detail B the index of the byte (R12). -/
def completeBadArgument (index : Nat) (s : State) : State :=
  capture ⟨.badArgument, .mailbox, runningCode s, byteOf index⟩ (complete .badArgument Row.zero s)

/-- The first failing check, if any: each check is whether it passes and the index it reports (R12). -/
def firstFailing : List (Bool × Nat) → Option Nat
  | [] => none
  | (good, i) :: rest => if good then firstFailing rest else some i

/-- A command acts only if every check passes; the first that fails decides the report (R12). -/
def withChecks (checks : List (Bool × Nat)) (act : State → State) (s : State) : State :=
  match firstFailing checks with
  | some i => completeBadArgument i s
  | none => act s

/-- A mailbox command step: taken when the command of that code has been started, otherwise it does not take place
(R10, R16; log entry 8). -/
def commandStep (code : Byte) (body : State → State) (s : State) : State :=
  if commandReady code s then stepOf body s else s

/-- A supervisory event has cut the step short: nothing completes, and the event is to be taken next (R7). -/
def markCut (s : State) : State := { s with sup := { s.sup with cutShort := true } }

/-- The checks of a command whose step a reset may cut short: one that is cut neither completes nor posts a result (R7,
R12). -/
def withChecksCut (cut : Option Nat) (checks : List (Bool × Nat)) (act : State → State) (s : State) : State :=
  match firstFailing checks with
  | some i => if cut.isSome then markCut s else completeBadArgument i s
  | none => act s

/-- A timekeeper command that a reset cuts short has made all of its changes or none (R7): `some 0` none, `some (k+1)`
all. -/
def allOrNothing (cut : Option Nat) (change finish : State → State) (s : State) : State :=
  match cut with
  | none => finish (change s)
  | some 0 => markCut s
  | some _ => markCut (change s)

/-! ### Host accesses (Chapter 1) -/

/-- A byte returned to the host (log entry 7). -/
def driveBus (b : Byte) (s : State) : State := { s with port := { s.port with dataBus := b } }

/-- A host read: its value from the state that the steps before it left, and its side effect, in one step. While nHRST is
asserted the read returns 0x00 and has no side effect (R1). -/
def hostRead (value : State → Byte) (effect : State → State) (s : State) : State :=
  if portOpen s then stepOf (fun s => driveBus (value s) (effect s)) s
  else if mainRunning s then stepOf (driveBus 0) s
  else if s.sup.power == .mainOn || s.sup.power == .brownOut then driveBus 0 s
  else s

/-- A host write: its action in one step. While nHRST is asserted it has no effect (R1). -/
def hostWrite (action : State → State) (s : State) : State :=
  if portOpen s then stepOf action s
  else if mainRunning s then stepOf id s
  else s

/-- The 16-bit value that a high-byte write commits: the write holding latch below the byte written (R2). -/
def committed (d : Byte) (s : State) : Half := d ++ s.port.writeLatch

/-! ### Token queue and repeat (Chapter 4) -/

/-- A discard of a device-formed record: counted in TQLOST, which stays at 255, and latched (R75, R76). -/
def discardRecord (s : State) : State :=
  setLatch .queueOverflow
    { s with tq := { s.tq with lost := if s.tq.lost = 255 then 255 else s.tq.lost + 1 } }

/-- The record joins the queue at the tail (R72). -/
def appendRecord (r : QRecord) (s : State) : State := { s with tq := { s.tq with records := s.tq.records ++ [r] } }

/-- A device-formed record is offered: appended below 32 records, otherwise discarded and counted (R74). -/
def offer (r : QRecord) (s : State) : State :=
  if queueCount s < 32 then appendRecord r s else discardRecord s

/-- Every record is removed, uncounted (R81, R82). -/
def emptyQueue (s : State) : State := { s with tq := { s.tq with records := [] } }

/-- The repeat record is set to IDLE (R87). -/
def cancelRepeat (s : State) : State := { s with rep := .idle }

/-- The compose accumulator and digit count are cleared (R52, R56, R60, R61, R70). -/
def clearCompose (s : State) : State := { s with tr := { s.tr with acc := 0, digits := 0 } }

/-! ### Backup memory (Chapter 9) -/

/-- The byte at an address (R158). -/
def memByte (m : Memory) (address : Nat) : Byte := Table.get factoryByte m address

/-- The memory with one byte written (R158). -/
def memWrite (m : Memory) (address : Nat) (b : Byte) : Memory := Table.set factoryByte m address b

/-- Bytes written in order. -/
def memWrites (m : Memory) (writes : List (Nat × Byte)) : Memory := writes.foldl (fun m w => memWrite m w.1 w.2) m

/-- The sum of the bytes 0 to n-1, modulo 256. -/
def memSum (m : Memory) (n : Nat) : Byte := ((List.range n).map (memByte m)).foldl (· + ·) 0

/-- The memory is consistent: the sum of all 64 bytes is 0x5A (R158). -/
def memConsistent (m : Memory) : Bool := memSum m 64 == 0x5A

/-- The byte that fixes the checksum of a memory (R158). -/
def checksumOf (m : Memory) : Byte := 0x5A - memSum m 63

/-- The writes of a writer of the memory: its bytes in order, then the checksum fix (R158). -/
def withChecksum (m : Memory) (writes : List (Nat × Byte)) : List (Nat × Byte) :=
  writes ++ [(63, checksumOf (memWrites m writes))]

/-- A mailbox command that writes the memory: uncut it writes all its bytes, fixes the checksum and completes with OK; cut
short after `k` bytes it has written those and posts nothing (R164 to R166, R168). -/
def writeBackup (cut : Option Nat) (bytes : List (Nat × Byte)) (s : State) : State :=
  let writes := withChecksum s.mem bytes
  match cut with
  | none => completeOk { s with mem := memWrites s.mem writes }
  | some k => markCut { s with mem := memWrites s.mem (writes.take k) }

/-! ### Resets (Chapter 10) -/

/-- A reset request made by this LSI as the last act of a step; requests that meet merge (R55, R176, R181). -/
def requestReset (r : ResetReason) (s : State) : State :=
  { s with sup := { s.sup with request := some (mergeWith s.sup.request r) } }

/-- Part 1 of a reset: every block of the main domain takes its reset values, nINT is released, and the power monitor
takes its reference sample, which sets no latch. The class table, the translation memory, DEFAULTS and BATLOW are left
alone; a full reset also clears the fault record, discards a ready halt detection and restarts the halt detector and the
oscillator check (R7, R20, R40, R71, R89, R112, R127, R137, R138, R155, R173, R175, R177, R178). -/
def mainDomainReset (full : Bool) (s : State) : State :=
  { s with
    port := { s.port with writeLatch := 0, readLatch := 0 }
    mb := {}
    scan := { s.scan with positions := [], raw := 0, lastBlocked := 0xFF, timer := 0, ready := false, run := true }
    tr := { s.tr with modKeys := [], locks := {}, held := false, acc := 0, digits := 0, lastChord := 0xFF, lampsReg := 0 }
    tq := {}
    rep := .idle
    lv := {}
    id := {}
    fault := if full then {} else s.fault
    wd := {}
    sup := { s.sup with
      request := none
      stretchTicks := 0
      stretchClks := 0
      pwrLow := s.env.pins.vddLow
      detector := if full then .watching 0 else s.sup.detector
      haltReady := if full then false else s.sup.haltReady
      oscSeen := if full then false else s.sup.oscSeen
      oscHalt := if full then none else s.sup.oscHalt
      cutShort := false } }

end Sys2Proof.Machine
end

