-- ==== Sys2Proof/Machine/EventLevels.lean ====
section
/-!
DEFINITION. Machine/EventLevels.lean: Chapter 5. The registers of the event level controller, accept and release, and the
route commands.
-/

namespace Sys2Proof.Machine

/-! ### Registers -/

/-- A write to LVCTL: 0x01 sets the switch ON, 0x00 OFF, any other value has no effect (R100). -/
def writeSwitch (d : Byte) (s : State) : State :=
  if d = 1 then { s with lv := { s.lv with switch := true } }
  else if d = 0 then { s with lv := { s.lv with switch := false } }
  else s

/-- LVCTL_WRITE (R100). -/
def execLvctlWrite (d : Byte) (s : State) : Host.Outcome State Fault Refusal := .next (hostWrite (writeSwitch d) s)

/-- Enables are set (R98). -/
def setEnables (mask : Half) (s : State) : State := { s with lv := { s.lv with enables := s.lv.enables ||| mask } }

/-- Enables of levels 0 to 14 are cleared; bit 15 is ignored (R98). -/
def clearEnables (mask : Half) (s : State) : State :=
  { s with lv := { s.lv with enables := s.lv.enables &&& ~~~(mask &&& 0x7FFF) } }

/-- Soft requests are set (R99). -/
def setSoft (mask : Half) (s : State) : State := { s with lv := { s.lv with soft := s.lv.soft ||| mask } }

/-- Soft requests are cleared (R99). -/
def clearSoft (mask : Half) (s : State) : State := { s with lv := { s.lv with soft := s.lv.soft &&& ~~~mask } }

/-- LVENS (R98). -/
def execLvens (d : Byte) (s : State) : Host.Outcome State Fault Refusal :=
  .next (hostWrite (fun s => setEnables (committed d s) s) s)

/-- LVENC (R98). -/
def execLvenc (d : Byte) (s : State) : Host.Outcome State Fault Refusal :=
  .next (hostWrite (fun s => clearEnables (committed d s) s) s)

/-- LVRQS (R99). -/
def execLvrqs (d : Byte) (s : State) : Host.Outcome State Fault Refusal :=
  .next (hostWrite (fun s => setSoft (committed d s) s) s)

/-- LVRQC (R99). -/
def execLvrqc (d : Byte) (s : State) : Host.Outcome State Fault Refusal :=
  .next (hostWrite (fun s => clearSoft (committed d s) s) s)

/-- The wake flag is cleared and nWAKE released (R149). -/
def clearWake (s : State) : State := { s with tk := { s.tk with wake := false } }

/-- A value committed to SRCCL: the selected latches are cleared, and bit 6 clears the wake flag too (R93, R149). -/
def clearSources (mask : Half) (s : State) : State :=
  let s' := clearLatches mask s
  if mask.getLsbD 6 then clearWake s' else s'

/-- SRCCL (R93). -/
def execSrccl (d : Byte) (s : State) : Host.Outcome State Fault Refusal :=
  .next (hostWrite (fun s => clearSources (committed d s) s) s)

/-! ### Accept and release -/

/-- The byte that a read of LVACC returns: the highest eligible level, or 0xFF (R104). -/
def acceptByte (s : State) : Byte :=
  match highestEligible s with
  | some l => byteOf l.val
  | none => 0xFF

/-- The highest eligible level, if there is one, is pushed onto the service stack (R104). -/
def acceptLevel (s : State) : State :=
  match highestEligible s with
  | some l => { s with lv := { s.lv with stack := l :: s.lv.stack } }
  | none => s

/-- ACCEPT: the read of LVACC (R104). -/
def execAccept (s : State) : Host.Outcome State Fault Refusal := .next (hostRead acceptByte acceptLevel s)

/-- A release: the top of the stack is popped and its soft request cleared; on an empty stack a SEQUENCE fault is captured
(R105, R106). -/
def releaseLevel (s : State) : State :=
  match s.lv.stack with
  | [] => capture ⟨.sequence, .levels, 0xFF, 0⟩ s
  | top :: rest => clearSoft (1#16 <<< top.val) { s with lv := { s.lv with stack := rest } }

/-- RELEASE: a write to LVREL (R105). -/
def execRelease (_d : Byte) (s : State) : Host.Outcome State Fault Refusal := .next (hostWrite releaseLevel s)

/-- LVTOP: the top level, or 0xFF (R107). -/
def topByte (s : State) : Byte :=
  match s.lv.stack with
  | [] => 0xFF
  | top :: _ => byteOf top.val

/-! ### Routes -/

/-- SET-ROUTE's effect (R95). -/
def setRouteBody (s : State) : State :=
  withChecks [(decide (s.mb.work[0].toNat ≤ 12), 0), (decide (s.mb.work[1].toNat ≤ 15), 1)] (fun s =>
    completeOk { s with lv := { s.lv with
      routes := s.lv.routes.setIfInBounds s.mb.work[0].toNat (s.mb.work[1].setWidth 4) } }) s

/-- SET_ROUTE (R95). -/
def execSetRoute (s : State) : Host.Outcome State Fault Refusal := .next (commandStep 0x30 setRouteBody s)

/-- READ-ROUTE's effect (R96). -/
def readRouteBody (s : State) : State :=
  withChecks [(decide (s.mb.work[0].toNat ≤ 12), 0)] (fun s =>
    complete .ok (Row.zero.set 0 ((s.lv.routes.getD s.mb.work[0].toNat 15#4).setWidth 8)) s) s

/-- READ_ROUTE (R96). -/
def execReadRoute (s : State) : Host.Outcome State Fault Refusal := .next (commandStep 0x31 readRouteBody s)

end Sys2Proof.Machine
end

