-- ==== Sys2Proof/Machine/IdentifyEngine.lean ====
section
/-!
DEFINITION. Machine/IdentifyEngine.lean: Chapter 6. IDSTART, the selection step with its internal, soft and empty results,
and the chain cycle as this LSI sees it.
-/

namespace Sys2Proof.Machine

/-! ### Results -/

/-- A result is posted: IDSRC and IDCODE change together and the engine becomes DONE (R113). -/
def postResult (source code : Byte) (s : State) : State :=
  { s with id := { s.id with state := .done, level := none, source := source, code := code } }

/-- A fault of the identify engine. -/
def identifyFault (cause : FaultCause) (a b : Byte) : FaultReport := ⟨cause, .identify, a, b⟩

/-! ### IDSTART (R114) -/

/-- A write to IDSTART (R114): refused while RUN, refused above 15, otherwise the engine runs and a selection step is
ready. -/
def startIdentify (d : Byte) (s : State) : State :=
  if s.id.state = .run then capture (identifyFault .busyViolation 0xFF d) s
  else if 15 < d.toNat then capture (identifyFault .badArgument 0xFF d) (postResult 0x1F 0xFF s)
  else { s with id := { s.id with state := .run, level := some (Fin.ofNat 16 d.toNat) } }

/-- IDSTART (R114). -/
def execIdstart (d : Byte) (s : State) : Host.Outcome State Fault Refusal := .next (hostWrite (startIdentify d) s)

/-! ### Selection (R115 to R118, R121) -/

/-- A source is a candidate at a level (R115). -/
def isCandidate (s : State) (l : Level) (n : Fin 15) : Bool :=
  sourceActive s n.val &&
  (if l = 15 then decide (13 ≤ n.val)
   else match s.lv.routes[n.val]? with
     | some r => r.toNat == l.val
     | none => false)

/-- The candidate with the lowest source number (R115). -/
def selectSource (s : State) (l : Level) : Option (Fin 15) := (List.finRange 15).find? (isCandidate s l)

/-- The identify code of an internal source, from the state before any change of the step (R116, R117). -/
def identifyCode (s : State) (n : Nat) : Byte :=
  match n with
  | 0 => byteOf (queueCount s)
  | 1 => byteOf (queueCount s)
  | 2 => s.tq.lost
  | 3 => s.tr.lastChord
  | 4 => bitAt 0 s.tr.held
  | 5 => s.scan.lastBlocked
  | 6 => bitAt 0 s.tk.wake
  | 7 => byteOf s.tk.sub
  | 8 => byteOf s.tk.cal.weekday
  | 11 => resultCode s.mb.result
  | 12 => bitAt 0 s.sup.pwrLow
  | 13 => bitAt 0 (s.wd.state == .warned)
  | _ => causeCode s.fault.cause

/-- An internal result (R116): the code is formed, the latch of a latched source is cleared (for ALARM the wake flag with
it), and the result is posted. -/
def internalResult (n : Nat) (s : State) : State :=
  let code := identifyCode s n
  let s' := clearLatches ((1#16 <<< n) &&& latchedMask) s
  postResult (byteOf n) code (if n = 6 then clearWake s' else s')

/-- With no candidate: SOFT if the level's soft request is set, otherwise NONE with an IDENT-EMPTY fault (R118). -/
def emptyResult (l : Level) (s : State) : State :=
  if s.lv.soft.getLsbD l.val then postResult 0x10 (byteOf l.val) s
  else capture (identifyFault .identEmpty (byteOf l.val) 0) (postResult 0x1F 0xFF s)

/-- A chain source is selected (R121): a busy line ends the cycle at once, otherwise CHS takes the class, IDG is asserted
and the presence phase begins. -/
def startCycle (c : ChainClass) (s : State) : State :=
  if s.env.pins.chdLow then
    capture (identifyFault .chainData (chainClassByte c) 0) (postResult (chainSource c) 0xFF s)
  else { s with id := { s.id with cycle := some { cls := c }, idg := true, chs := c == .b } }

/-- The selection step (R115). -/
def selectionBody (s : State) : State :=
  let l := s.id.level.getD 0
  match selectSource s l with
  | none => emptyResult l s
  | some n =>
    if n.val = 9 then startCycle .a s
    else if n.val = 10 then startCycle .b s
    else internalResult n.val s

/-- SELECTION_STEP (R115), when it is ready (R114). -/
def execSelectionStep (s : State) : Host.Outcome State Fault Refusal :=
  .next (if selectionReady s then stepOf selectionBody s else s)

/-! ### The chain cycle (R122 to R126)

The events of the chain line change nothing that another step can see but the chain outputs, and are no steps (R121; log
entry 12); only the selection and the completion are. -/

/-- The cycle goes on to a phase. -/
def toPhase (phase : ChainPhase) (c : ChainCycle) (s : State) : State :=
  { s with id := { s.id with cycle := some { c with phase := phase, time := 0 } } }

/-- IDG is removed, CHS returned low and CHC left high, and the settling interval begins (R122 to R124). -/
def settle (outcome : ChainOutcome) (c : ChainCycle) (s : State) : State :=
  toPhase (.settling outcome) c { s with id := { s.id with idg := false, chs := false, chc := true } }

/-- The level of CHD as an event of the line leaves it (log entry 4). -/
def setChd (low : Bool) (s : State) : State :=
  { s with env := { s.env with pins := { s.env.pins with chdLow := low } } }

/-- An event of the chain line acts in the phase in which it can occur and in no other. -/
def chainEvent (phase : ChainPhase) (act : ChainCycle → State → State) (s : State) : State :=
  match runningCycle s with
  | some c => if c.phase = phase then act c s else s
  | none => s

/-- PRESENCE (R122). -/
def execPresence (s : State) : Host.Outcome State Fault Refusal :=
  .next (chainEvent .presence (fun c s => toPhase .release c (setChd true s)) s)

/-- PRESENCE_RELEASED (R123): after 2 further CHC periods the identity shift begins. -/
def execPresenceReleased (s : State) : Host.Outcome State Fault Refusal :=
  .next (chainEvent .release (fun c s => toPhase .shift c (setChd false s)) s)

/-- ANSWER_WINDOW_TIMEOUT (R122). -/
def execAnswerWindowTimeout (s : State) : Host.Outcome State Fault Refusal :=
  .next (chainEvent .presence (settle .timeout) s)

/-- PRESENCE_STUCK_TIMEOUT (R123). -/
def execPresenceStuckTimeout (s : State) : Host.Outcome State Fault Refusal :=
  .next (chainEvent .release (settle .stuck) s)

/-- IDENTITY_SHIFT_END (R124): the nine bits are received. -/
def execIdentityShiftEnd (bits : BitVec 9) (s : State) : Host.Outcome State Fault Refusal :=
  .next (chainEvent .shift (fun c s => settle (.shifted bits) { c with bits := bits } s) s)

/-- The received code: the first eight samples (R124). -/
def receivedCode (bits : BitVec 9) : Byte := bits.extractLsb' 1 8

/-- The nine bits hold an odd number of ones (R125). -/
def oddOnes (bits : BitVec 9) : Bool := (List.range 9).countP (fun i => bits.getLsbD i) % 2 == 1

/-- The received bits pass the check: odd parity and a code from 0x01 to 0xFE (R125). -/
def codeGood (bits : BitVec 9) : Bool := oddOnes bits && receivedCode bits != 0 && receivedCode bits != 0xFF

/-- IDCODE and fault of a completed cycle (R122, R123, R125). -/
def cycleResult (c : ChainClass) (l : Level) : ChainOutcome → Byte × Option FaultReport
  | .timeout => (0xFF, some (identifyFault .chainTimeout (chainClassByte c) (byteOf l.val)))
  | .stuck => (0xFF, some (identifyFault .chainData (chainClassByte c) 0))
  | .shifted bits =>
    if codeGood bits then (receivedCode bits, none)
    else (0xFF, some (identifyFault .chainData (chainClassByte c) (receivedCode bits)))

/-- The completion step (R125): the result is posted and the chain fault, if there is one, captured. -/
def completionBody (c : ChainCycle) (outcome : ChainOutcome) (s : State) : State :=
  let r := cycleResult c.cls (s.id.level.getD 0) outcome
  let s' := postResult (chainSource c.cls) r.1 { s with id := { s.id with cycle := none } }
  captureAll r.2.toList s'

/-- CHAIN_CYCLE_COMPLETION (R122, R123, R125), after the settling interval. -/
def execChainCycleCompletion (s : State) : Host.Outcome State Fault Refusal :=
  .next (match runningCycle s with
    | some c =>
      match c.phase with
      | .settling outcome => stepOf (completionBody c outcome) s
      | _ => s
    | none => s)

end Sys2Proof.Machine
end

