-- ==== Sys2Proof/Machine/MailboxCommands.lean ====
section
/-!
DEFINITION. Machine/MailboxCommands.lean: Chapter 1's own part of the mailbox. The start of a command, unknown codes, ECHO,
SET-CONFIG and READ-CONFIG.
-/

namespace Sys2Proof.Machine

/-- A write to MBCMD (R10, R11): starts a command while IDLE or DONE, and is rejected with BUSY-VIOLATION while BUSY. -/
def startCommand (d : Byte) (s : State) : State :=
  if s.mb.state = .busy then capture ⟨.busyViolation, .mailbox, d, runningCode s⟩ s
  else { s with mb := { s.mb with state := .busy, work := s.mb.args, running := some d } }

/-- MBCMD_WRITE (R10). -/
def execMbcmdWrite (d : Byte) (s : State) : Host.Outcome State Fault Refusal := .next (hostWrite (startCommand d) s)

/-- The step of a code that names no command (R12). -/
def badCommandBody (s : State) : State :=
  capture ⟨.badCommand, .mailbox, runningCode s, 0⟩ (complete .badCommand Row.zero s)

/-- BAD_COMMAND (R12). -/
def execBadCommand (s : State) : Host.Outcome State Fault Refusal :=
  .next (if badCommandReady s then stepOf badCommandBody s else s)

/-- ECHO (R17). -/
def execEcho (s : State) : Host.Outcome State Fault Refusal :=
  .next (commandStep 0x01 (fun s => complete .ok s.mb.work s) s)

/-- A field identity is 1..12 (R18, R19). -/
def fieldNamed (b : Byte) : Bool := decide (1 ≤ b.toNat) && decide (b.toNat ≤ 12)

/-- SET-CONFIG's effect (R18). -/
def setConfigBody (s : State) : State :=
  withChecks [(fieldNamed s.mb.work[0], 0), (fieldInRange s.mb.work[0].toNat s.mb.work[1], 1)]
    (fun s => completeOk { s with cfg := fieldSet s.cfg s.mb.work[0].toNat s.mb.work[1] }) s

/-- SET_CONFIG (R18). -/
def execSetConfig (s : State) : Host.Outcome State Fault Refusal := .next (commandStep 0x60 setConfigBody s)

/-- READ-CONFIG's effect (R19). -/
def readConfigBody (s : State) : State :=
  withChecks [(fieldNamed s.mb.work[0], 0)]
    (fun s => complete .ok (Row.zero.set 0 (fieldGet s.cfg s.mb.work[0].toNat)) s) s

/-- READ_CONFIG (R19). -/
def execReadConfig (s : State) : Host.Outcome State Fault Refusal := .next (commandStep 0x61 readConfigBody s)

end Sys2Proof.Machine
end

