-- ==== Sys2Proof/Machine/TokenQueue.lean ====
section
/-!
DEFINITION. Machine/TokenQueue.lean: Chapter 4. The token queue at the host port, INSERT and FLUSH, and the typematic
repeat record.
-/

namespace Sys2Proof.Machine

/-! ### Reading and removing the head -/

/-- The read of TQLOST clears the count (R75). -/
def clearLost (s : State) : State := { s with tq := { s.tq with lost := 0 } }

/-- The head snapshot: the head record, or the empty snapshot, goes into the head latch (R77). -/
def takeSnapshot (s : State) : State := { s with tq := { s.tq with headLatch := s.tq.records.head? } }

/-- The byte that the read of TQHT0 returns (R77). -/
def headLowByte (s : State) : Byte := (s.tq.records.head?.map (fun r => lowByte r.token)).getD 0

/-- TQHT1: the high byte of the latched token (R78). -/
def latchedHighByte (s : State) : Byte := (s.tq.headLatch.map (fun r => highByte r.token)).getD 0

/-- TQHINF: the latched MODS and SOURCE (R78). -/
def latchedInfo (s : State) : Byte :=
  (s.tq.headLatch.map (fun r => modsBits r.mods ||| recordSourceCode r.source)).getD 0

/-- TQHPOS: the latched position, or 0xFF (R78). -/
def latchedPosition (s : State) : Byte :=
  match s.tq.headLatch with
  | some { position := some p, .. } => byteOf p.val
  | _ => 0xFF

/-- The head record is removed; on an empty queue nothing happens (R79). -/
def removeHead (s : State) : State := { s with tq := { s.tq with records := s.tq.records.tail } }

/-- TQLOST_READ (R75). -/
def execTqlostRead (s : State) : Host.Outcome State Fault Refusal :=
  .next (hostRead (fun s => s.tq.lost) clearLost s)

/-- HEAD_SNAPSHOT: the read of TQHT0 (R77). -/
def execHeadSnapshot (s : State) : Host.Outcome State Fault Refusal :=
  .next (hostRead headLowByte takeSnapshot s)

/-- TQTAKE (R79). -/
def execTqtake (_d : Byte) (s : State) : Host.Outcome State Fault Refusal := .next (hostWrite removeHead s)

/-! ### Host commands on the queue -/

/-- INSERT's effect (R80): a HOST record is appended, or refused with FULL. -/
def insertBody (s : State) : State :=
  if queueCount s < 32 then
    let s' := appendRecord { token := s.mb.work[1] ++ s.mb.work[0], source := .host, position := none, mods := none } s
    complete .ok (Row.zero.set 0 (byteOf (queueCount s'))) s'
  else complete .full Row.zero s

/-- INSERT (R80). -/
def execInsert (s : State) : Host.Outcome State Fault Refusal := .next (commandStep 0x20 insertBody s)

/-- FLUSH's effect (R81): the queue is emptied, the repeat cancelled, and the number of records returned. -/
def flushBody (s : State) : State :=
  complete .ok (Row.zero.set 0 (byteOf (queueCount s))) (cancelRepeat (emptyQueue s))

/-- FLUSH (R81). -/
def execFlush (s : State) : Host.Outcome State Fault Refusal := .next (commandStep 0x21 flushBody s)

/-! ### The typematic repeat -/

/-- Stage 8 of the press pipeline arms the repeat with a copy of the KEY record (R58, R84). -/
def armRepeat (p : Position) (r : QRecord) (s : State) : State :=
  { s with rep := .armed .delay p { r with source := .repeated } (delayTicks s.cfg) }

/-- A release event of the repeating position cancels the repeat (R59, R87). -/
def releaseRepeat (p : Position) (s : State) : State :=
  match s.rep with
  | .armed _ q _ _ => if q = p then cancelRepeat s else s
  | .idle => s

/-- An expiry: the stored record is offered, or skipped under the throttle, and the countdown is reloaded (R85). -/
def expireRepeat (p : Position) (r : QRecord) (s : State) : State :=
  let s' := if s.cfg.repeatThrottle = 0 ∨ queueCount s < s.cfg.repeatThrottle.toNat then offer r s else s
  { s' with rep := .armed .repeating p r s'.cfg.repeatInterval.toNat }

/-- Item 6 of a tick step: the countdown is lowered, and expires at 0 (R85). -/
def repeatTick (s : State) : State :=
  match s.rep with
  | .idle => s
  | .armed phase p r n => if n ≤ 1 then expireRepeat p r s else { s with rep := .armed phase p r (n - 1) }

/-- The next tick step brings the countdown to 0. -/
def repeatDue (s : State) : Bool :=
  match s.rep with
  | .idle => false
  | .armed _ _ _ n => decide (n ≤ 1)

end Sys2Proof.Machine
end

