-- ==== Sys2Proof/Machine/Translation.lean ====
section
/-!
DEFINITION. Machine/Translation.lean: Chapter 3. The press pipeline and the release events, the LAMPS register, and the
commands of translation.
-/

namespace Sys2Proof.Machine

/-! ### Column selection (R47) -/

/-- The five columns (R42). -/
inductive Column where
  | normal | shift | ctrl | alt | lock
  deriving DecidableEq, Repr

/-- The column numbers 0..4 (R42). -/
def columnNumber : Column → Nat
  | .normal => 0
  | .shift => 1
  | .ctrl => 2
  | .alt => 3
  | .lock => 4

/-- The column of a press (R47): alt, then ctrl, then the class with the lock state and LOCK-MODE. -/
def selectColumn (c : KeyClass) (s : State) : Column :=
  let shift := shiftHeld s
  let invert := s.cfg.lockMode == 0
  if altHeld s then .alt
  else if ctrlHeld s then .ctrl
  else match c with
    | .letter =>
      if (if invert then s.tr.locks.caps != shift else s.tr.locks.caps || shift) then .shift else .normal
    | .keypad _ =>
      if invert then (if s.tr.locks.num != shift then .lock else .normal)
      else if s.tr.locks.num then .lock
      else if shift then .shift
      else .normal
    | _ => if shift then .shift else .normal

/-- The stored entry of a position and a column number (R42). -/
def entryAt (s : State) (position column : Nat) : Entry :=
  Table.get builtInEntry s.tr.entries (entryKey position column)

/-! ### Chords (R52 to R54) -/

/-- An enabled entry matches a press: same position, and the three conditions agree exactly (R52). -/
def chordMatches (c : Chord) (p : Position) (s : State) : Bool :=
  c.enabled && c.position == p && c.shift == shiftHeld s && c.ctrl == ctrlHeld s && c.alt == altHeld s

/-- The first matching entry, 0 to 3 (R52). -/
def findChord (p : Position) (s : State) : Option (Fin 4) :=
  (List.finRange 4).find? (fun i => chordMatches s.cfg.chords[i] p s)

/-- The ATTENTION-CHORD latch and the last chord index (R53). -/
def recordChord (i : Fin 4) (s : State) : State :=
  setLatch .attentionChord { s with tr := { s.tr with lastChord := byteOf i.val } }

/-- The MARKER record (R73). -/
def markerRecord : QRecord := { token := 0, source := .marker, position := none, mods := none }

/-- The action of a chord entry (R53 to R55, R82). -/
def chordAction (i : Fin 4) (s : State) : State :=
  match s.cfg.chords[i].action with
  | .attention => recordChord i s
  | .flushMark => recordChord i (appendRecord markerRecord (emptyQueue (cancelRepeat s)))
  | .hold => setLatch .hold (cancelRepeat { s with tr := { s.tr with held := true } })
  | .hostReset => requestReset .chord s

/-! ### The press pipeline (R48 to R58) -/

/-- Stages 7 and 8 (R57, R58): the entry of the selected column gives a parity fault, nothing, or a KEY record that is
offered and arms the repeat. -/
def translatePress (c : KeyClass) (p : Position) (s : State) : State × List FaultReport :=
  let column := selectColumn c s
  let e := entryAt s p.val (columnNumber column)
  if !parityGood e then (s, [⟨.tableParity, .translator, byteOf p.val, byteOf (columnNumber column)⟩])
  else if isVoid e.value then (s, [])
  else
    let r : QRecord := { token := e.value, source := .key, position := some p, mods := some (currentMods s) }
    (armRepeat p r (offer r s), [])

/-- Stage 6 takes the press as a compose digit (R56). -/
def composeDigit (c : KeyClass) (s : State) : Option (Fin 10) :=
  match c with
  | .keypad (some d) => if ctrlHeld s || shiftHeld s then none else some d
  | _ => none

/-- A digit joins the accumulator, modulo 256; the digit count stays at 255 (R56). -/
def addDigit (d : Fin 10) (s : State) : State :=
  { s with tr := { s.tr with
    acc := s.tr.acc * 10 + byteOf d.val
    digits := if s.tr.digits = 255 then 255 else s.tr.digits + 1 } }

/-- Stages 4 to 8 for the classes PLAIN, LETTER, KEYPAD and INSERT (R51 to R58). -/
def pressTranslating (c : KeyClass) (p : Position) (s : State) : State × List FaultReport :=
  let s := cancelRepeat s
  match findChord p s with
  | some i => (chordAction i (clearCompose s), [])
  | none =>
    if s.cfg.compose == 1 && altHeld s then
      match composeDigit c s with
      | some d => (addDigit d s, [])
      | none => translatePress c p (clearCompose s)
    else translatePress c p s

/-- HELD ends: the flag is cleared and the HOLD latch set (R48, R62). -/
def leaveHeld (s : State) : State := setLatch .hold { s with tr := { s.tr with held := false } }

/-- One press event through the eight stages (R48 to R58), with the faults it reports. A press of class UNUSED does not
occur (R33) and does nothing. -/
def pressEvent (p : Position) (s : State) : State × List FaultReport :=
  let c := classOf s p
  match modifierOf c with
  | some m => ({ s with tr := { s.tr with modKeys := (p, m) :: s.tr.modKeys } }, [])
  | none =>
    if s.tr.held then (leaveHeld s, [])
    else match c with
      | .caps => ({ s with tr := { s.tr with locks := { s.tr.locks with caps := !s.tr.locks.caps } } }, [])
      | .num => ({ s with tr := { s.tr with locks := { s.tr.locks with num := !s.tr.locks.num } } }, [])
      | .scroll => ({ s with tr := { s.tr with locks := { s.tr.locks with scroll := !s.tr.locks.scroll } } }, [])
      | .insert =>
        pressTranslating .insert p
          { s with tr := { s.tr with locks := { s.tr.locks with insert := !s.tr.locks.insert } } }
      | .unused => (s, [])
      | _ => pressTranslating c p s

/-! ### Release events (R59, R60) -/

/-- The COMPOSE record of a completed compose (R60). -/
def composeRecord (s : State) : QRecord :=
  { token := s.tr.acc.setWidth 16, source := .compose, position := none, mods := some (currentMods s) }

/-- The release that ends alt completes compose (R60). -/
def completeCompose (s : State) : State :=
  clearCompose
    (if s.cfg.compose == 1 && s.tr.digits != 0 && s.tr.acc != 0 then offer (composeRecord s) s else s)

/-- One release event (R59). -/
def releaseEvent (p : Position) (s : State) : State :=
  let s' := { s with tr := { s.tr with modKeys := s.tr.modKeys.filter (fun k => k.1 != p) } }
  releaseRepeat p (if altHeld s && !altHeld s' then completeCompose s' else s')

/-- What translation forgets when scanning is stopped (R70). -/
def forgetKeys (s : State) : State :=
  cancelRepeat (clearCompose { s with tr := { s.tr with modKeys := [] } })

/-! ### LAMPS (R46) -/

/-- A write to LAMPS stores bits 2-0 of the byte (R46). -/
def writeLamps (d : Byte) (s : State) : State := { s with tr := { s.tr with lampsReg := d.setWidth 3 } }

/-- LAMPS_WRITE (R46). -/
def execLampsWrite (d : Byte) (s : State) : Host.Outcome State Fault Refusal := .next (hostWrite (writeLamps d) s)

/-! ### Commands of translation (R62 to R69) -/

/-- The class table and the translation memory take the built-in layout (R43, R66). -/
def restoreLayout (s : State) : State := { s with tr := { s.tr with classes := [], entries := [] } }

/-- The checks of LOAD-ENTRY and READ-ENTRY: position and column (R63, R64). -/
def entryChecks (s : State) : List (Bool × Nat) :=
  [(decide (s.mb.work[0].toNat ≤ 127), 0), (decide (s.mb.work[1].toNat ≤ 4), 1)]

/-- LOAD-ENTRY's effect (R63): the value is stored with fresh parity. -/
def loadEntryBody (s : State) : State :=
  withChecks (entryChecks s) (fun s =>
    completeOk { s with tr := { s.tr with
      entries := Table.set builtInEntry s.tr.entries (entryKey s.mb.work[0].toNat s.mb.work[1].toNat)
        (freshEntry (s.mb.work[3] ++ s.mb.work[2])) } }) s

/-- LOAD_ENTRY (R63). -/
def execLoadEntry (s : State) : Host.Outcome State Fault Refusal := .next (commandStep 0x10 loadEntryBody s)

/-- READ-ENTRY's effect (R64): the stored value, with PARITY and its fault on a parity error. -/
def readEntryBody (s : State) : State :=
  withChecks (entryChecks s) (fun s =>
    let e := entryAt s s.mb.work[0].toNat s.mb.work[1].toNat
    let out := (Row.zero.set 0 (lowByte e.value)).set 1 (highByte e.value)
    if parityGood e then complete .ok out s
    else capture ⟨.tableParity, .translator, s.mb.work[0], s.mb.work[1]⟩ (complete .parity out s)) s

/-- READ_ENTRY (R64). -/
def execReadEntry (s : State) : Host.Outcome State Fault Refusal := .next (commandStep 0x11 readEntryBody s)

/-- The digit byte that SET-CLASS accepts: 0xFF, or 0..9 for KEYPAD (R65). -/
def digitGood (code digit : Byte) : Bool := digit == 0xFF || (code == 2 && decide (digit.toNat ≤ 9))

/-- SET-CLASS's effect (R65). -/
def setClassBody (s : State) : State :=
  withChecks
    [(decide (s.mb.work[0].toNat ≤ 127), 0), (decide (s.mb.work[1].toNat ≤ 13), 1),
     (digitGood s.mb.work[1] s.mb.work[2], 2)]
    (fun s => completeOk { s with tr := { s.tr with
      classes := Table.set builtInClass s.tr.classes s.mb.work[0].toNat (classOfCode s.mb.work[1] s.mb.work[2]) } }) s

/-- SET_CLASS (R65). -/
def execSetClass (s : State) : Host.Outcome State Fault Refusal := .next (commandStep 0x12 setClassBody s)

/-- READ-CLASS's effect (R65). -/
def readClassBody (s : State) : State :=
  withChecks [(decide (s.mb.work[0].toNat ≤ 127), 0)] (fun s =>
    let c := Table.get builtInClass s.tr.classes s.mb.work[0].toNat
    complete .ok ((Row.zero.set 0 (classCode c)).set 1 (classDigit c)) s) s

/-- READ_CLASS (R65). -/
def execReadClass (s : State) : Host.Outcome State Fault Refusal := .next (commandStep 0x13 readClassBody s)

/-- RESTORE_LAYOUT (R66). -/
def execRestoreLayout (s : State) : Host.Outcome State Fault Refusal :=
  .next (commandStep 0x14 (fun s => completeOk (restoreLayout s)) s)

/-- SET-CHORD's effect (R67). -/
def setChordBody (s : State) : State :=
  withChecks
    [(decide (s.mb.work[0].toNat ≤ 3), 0), (decide (s.mb.work[1].toNat ≤ 7), 1), (decide (s.mb.work[2].toNat ≤ 127), 2),
     (decide (s.mb.work[3].toNat ≤ 3), 3), (decide (s.mb.work[4].toNat ≤ 1), 4)]
    (fun s => completeOk { s with cfg := { s.cfg with
      chords := s.cfg.chords.setIfInBounds s.mb.work[0].toNat
        (chordOf s.mb.work[1] s.mb.work[2] s.mb.work[3] (s.mb.work[4] == 1)) } }) s

/-- SET_CHORD (R67). -/
def execSetChord (s : State) : Host.Outcome State Fault Refusal := .next (commandStep 0x15 setChordBody s)

/-- READ-CHORD's effect (R67). -/
def readChordBody (s : State) : State :=
  withChecks [(decide (s.mb.work[0].toNat ≤ 3), 0)] (fun s =>
    let c := s.cfg.chords.getD s.mb.work[0].toNat {}
    complete .ok #v[requirementsByte c, byteOf c.position.val, actionCode c.action, bitAt 0 c.enabled, 0, 0, 0, 0] s) s

/-- READ_CHORD (R67). -/
def execReadChord (s : State) : Host.Outcome State Fault Refusal := .next (commandStep 0x16 readChordBody s)

/-- A toggle under SET-LOCKS: bit `n` of the values where the mask selects it (R68). -/
def maskedLock (n : Nat) (s : State) (old : Bool) : Bool :=
  if s.mb.work[0].getLsbD n then s.mb.work[1].getLsbD n else old

/-- SET-LOCKS's effect (R68). -/
def setLocksBody (s : State) : State :=
  withChecks [(decide (s.mb.work[0].toNat ≤ 15), 0), (decide (s.mb.work[1].toNat ≤ 15), 1)] (fun s =>
    completeOk { s with tr := { s.tr with locks := {
      caps := maskedLock 0 s s.tr.locks.caps
      num := maskedLock 1 s s.tr.locks.num
      scroll := maskedLock 2 s s.tr.locks.scroll
      insert := maskedLock 3 s s.tr.locks.insert } } }) s

/-- SET_LOCKS (R68). -/
def execSetLocks (s : State) : Host.Outcome State Fault Refusal := .next (commandStep 0x17 setLocksBody s)

/-- The result bytes of READ-KEYSTATE (R69). -/
def keystateRow (s : State) : Row :=
  #v[locksByte s.tr.locks, heldByte s, bitAt 0 s.tr.held, s.tr.acc, s.tr.digits, byteOf (trackedCount s),
     repeatPosition s.rep, 0]

/-- READ_KEYSTATE (R69). -/
def execReadKeystate (s : State) : Host.Outcome State Fault Refusal :=
  .next (commandStep 0x18 (fun s => complete .ok (keystateRow s) s) s)

/-- END-HOLD's effect (R62). -/
def endHoldBody (s : State) : State := completeOk (if s.tr.held then leaveHeld s else s)

/-- END_HOLD (R62). -/
def execEndHold (s : State) : Host.Outcome State Fault Refusal := .next (commandStep 0x19 endHoldBody s)

end Sys2Proof.Machine
end

