-- ==== Sys2Proof/Machine/Scan.lean ====
section
/-!
DEFINITION. Machine/Scan.lean: Chapter 2. The scan pass with its four stages, and the stop and start of scanning.
-/

namespace Sys2Proof.Machine

/-! ### The raw image (R21, R22, R29) -/

/-- The raw image of a pass: the samples of the examined drive lines 0 to DRIVE-COUNT - 1; every other position is seen up
(R21, R22). -/
def rawImage (c : OpConfig) (seen : BitVec 128) : BitVec 128 :=
  seen &&& BitVec.ofNat 128 (2 ^ (8 * c.driveCount.toNat) - 1)

/-- A position is seen down in an image. -/
def seenDown (image : BitVec 128) (p : Nat) : Bool := image.getLsbD p

/-- A position is ambiguous: the three other corners of some rectangle of the grid are seen down (R29). -/
def ambiguous (image : BitVec 128) (p : Position) : Bool :=
  (List.range 16).any (fun d => (List.range 8).any (fun n =>
    d != p.val / 8 && n != p.val % 8 &&
    seenDown image (p.val / 8 * 8 + n) && seenDown image (d * 8 + p.val % 8) && seenDown image (d * 8 + n)))

/-! ### The release stage (R26, R33) -/

/-- The release stage for one tracked position: its next state, and whether it delivers a release event. `d` is DEBOUNCE
in force; a position of class UNUSED is released whatever its sample (R26, R33). -/
def releaseChange (unused : Bool) (d : Nat) (down : Bool) : PosState → PosState × Bool
  | .down =>
    if unused then (.up, true)
    else if down then (.down, false)
    else if d ≤ 1 then (.up, true) else (.releasing 1, false)
  | .releasing k =>
    if unused then (.up, true)
    else if down then (.down, false)
    else if d ≤ k + 1 then (.up, true) else (.releasing (k + 1), false)
  | st => (st, false)

/-- The release stage at one position: the table of states and the releases so far. -/
def releaseAt (s : State) (image : BitVec 128) (acc : Table PosState × List Position) (p : Position) :
    Table PosState × List Position :=
  let r := releaseChange (classOf s p == .unused) s.cfg.debounce.toNat (seenDown image p.val) (posOf acc.1 p)
  (Table.set builtInPos acc.1 p.val r.1, if r.2 then acc.2 ++ [p] else acc.2)

/-- The release stage over all positions in ascending order (R25). -/
def releaseStage (s : State) (image : BitVec 128) : Table PosState × List Position :=
  (List.finRange 128).foldl (releaseAt s image) (s.scan.positions, [])

/-! ### The press stage (R27 to R33) -/

/-- What the press stage does at one position. -/
inductive PressOutcome where
  /-- The state changes or stays, with no event and no report. -/
  | quiet (st : PosState)
  /-- The position enters DOWN with a press event. -/
  | press
  /-- The position enters a blocked state and is reported (R32). -/
  | blocked (st : PosState)
  deriving DecidableEq, Repr

/-- The qualification check (R28); a position that comes from BLOCKED-GHOST and is refused stays there unreported (R30). -/
def qualify (isAmbiguous : Bool) (tracked : Nat) (fromGhost : Bool) : PressOutcome :=
  if isAmbiguous then (if fromGhost then .quiet .blockedGhost else .blocked .blockedGhost)
  else if 8 ≤ tracked then (if fromGhost then .quiet .blockedGhost else .blocked .blockedRollover)
  else .press

/-- The press stage for one position that is not tracked (R27, R30, R31, R33). -/
def pressChange (unused : Bool) (d : Nat) (down isAmbiguous : Bool) (tracked : Nat) (st : PosState) : PressOutcome :=
  if isTracked st then .quiet st
  else if unused || !down then .quiet .up
  else match st with
    | .pressing k => if d ≤ k + 1 then qualify isAmbiguous tracked false else .quiet (.pressing (k + 1))
    | .blockedGhost => qualify isAmbiguous tracked true
    | .blockedRollover => .quiet .blockedRollover
    | _ => if d ≤ 1 then qualify isAmbiguous tracked false else .quiet (.pressing 1)

/-- What the press stage has made so far: the states, the presses in ascending order, the last position blocked. -/
structure PressResult where
  positions : Table PosState
  presses : List Position := []
  blocked : Option Position := none
  deriving DecidableEq, Repr

/-- The press stage at one position; positions qualified earlier in the stage count as tracked (R25, R28). -/
def pressAt (s : State) (image : BitVec 128) (r : PressResult) (p : Position) : PressResult :=
  match pressChange (classOf s p == .unused) s.cfg.debounce.toNat (seenDown image p.val) (ambiguous image p)
      (trackedIn r.positions) (posOf r.positions p) with
  | .quiet st => { r with positions := Table.set builtInPos r.positions p.val st }
  | .press =>
    { r with positions := Table.set builtInPos r.positions p.val .down, presses := r.presses ++ [p] }
  | .blocked st => { r with positions := Table.set builtInPos r.positions p.val st, blocked := some p }

/-- The press stage over all positions in ascending order (R25). -/
def pressStage (s : State) (image : BitVec 128) (positions : Table PosState) : PressResult :=
  (List.finRange 128).foldl (pressAt s image) { positions := positions }

/-! ### Delivery and the pass (R25, R32, R34) -/

/-- The MATRIX latch and the last blocked position, when a position entered blocking in the pass (R32). -/
def reportBlocked (blocked : Option Position) (s : State) : State :=
  match blocked with
  | none => s
  | some p => setLatch .matrix { s with scan := { s.scan with lastBlocked := byteOf p.val } }

/-- The press events are delivered in order; each sees the results of those before it (R34). The faults are gathered in
the order in which they are reported. -/
def deliverPresses : List Position → State → State × List FaultReport
  | [], s => (s, [])
  | p :: rest, s =>
    let r := pressEvent p s
    let r' := deliverPresses rest r.1
    (r'.1, r.2 ++ r'.2)

/-- The scan timer restarts from 0 with the period in force, and no pass is ready (R23, R24). -/
def restartScanTimer (s : State) : State :=
  { s with scan := { s.scan with timer := 0, interval := scanCycles s.cfg, ready := false } }

/-- A pass is taken. A ready one leaves the timer, which restarted when the pass became ready (R23); one that its sender
brings before this LSI has counted the period restarts the timer (log entry 10). -/
def takePass (s : State) : State :=
  if s.scan.ready then { s with scan := { s.scan with ready := false } } else restartScanTimer s

/-- An oscillator cycle in the scan timer: at the period in force the pass becomes ready and the count restarts at once
(R23, R24). -/
def scanTimerCycle (s : State) : State :=
  if s.scan.interval ≤ s.scan.timer + 1 then
    { s with scan := { s.scan with timer := 0, interval := scanCycles s.cfg, ready := true } }
  else { s with scan := { s.scan with timer := s.scan.timer + 1 } }

/-- The content of a scan pass: sample, release stage, press stage, then the delivery of every release and of every press
(R25, R34); the faults of the pass are captured together (R132). -/
def scanPassBody (seen : BitVec 128) (s : State) : State :=
  let image := rawImage s.cfg seen
  let released := releaseStage s image
  let pressed := pressStage s image released.1
  let s := reportBlocked pressed.blocked
    { s with scan := { s.scan with positions := pressed.positions, raw := image } }
  let r := deliverPresses pressed.presses (released.2.foldl (fun s p => releaseEvent p s) s)
  captureAll r.2 (takePass r.1)

/-- SCAN_PASS (R25): the step of a pass, while scanning runs (R23, R38 to R40). -/
def execScanPass (seen : BitVec 128) (s : State) : Host.Outcome State Fault Refusal :=
  .next (if scanRuns s then stepOf (scanPassBody seen) s else s)

/-! ### SCANC (R37, R38) -/

/-- The effect of writing 0x00 to SCANC: nothing while stopped, otherwise scanning stops and every key is forgotten (R37,
R70). -/
def stopScanning (s : State) : State :=
  if s.scan.run then
    forgetKeys { s with scan := { s.scan with run := false, timer := 0, ready := false, positions := [], raw := 0 } }
  else s

/-- The effect of writing 0x01 to SCANC: nothing while running, otherwise the timer counts from 0 (R38). -/
def startScanning (s : State) : State :=
  if s.scan.run then s else restartScanTimer { s with scan := { s.scan with run := true } }

/-- SCANC_STOP (R37). -/
def execScancStop (s : State) : Host.Outcome State Fault Refusal := .next (hostWrite stopScanning s)

/-- SCANC_RUN (R38). -/
def execScancRun (s : State) : Host.Outcome State Fault Refusal := .next (hostWrite startScanning s)

end Sys2Proof.Machine
end

