-- ==== Sys2Proof/Machine/WatchdogTimer.lean ====
section
/-!
DEFINITION. Machine/WatchdogTimer.lean: Chapter 10, section 10.2. The watchdog's tick, WATCHDOG-SET and the kick.
-/

namespace Sys2Proof.Machine

/-- The next tick step brings the count to the active period (R170). -/
def watchdogDue (w : Watchdog) : Bool := w.state != .disabled && decide (watchdogTicks w.active ≤ w.count + 1)

/-- Item 7 of a tick step (R170): the count advances; the first expiry warns, the second requests a host-side reset and
leaves the watchdog's own state as it is. -/
def watchdogTick (s : State) : State :=
  if s.wd.state = .disabled then s
  else if !watchdogDue s.wd then { s with wd := { s.wd with count := s.wd.count + 1 } }
  else if s.wd.state = .armed then
    setLatch .watchdog { s with wd := { s.wd with state := .warned, count := 0, active := s.wd.pending } }
  else requestReset .watchdog s

/-- WATCHDOG-SET once its arguments are in range (R171). -/
def watchdogSetAct (s : State) : State :=
  let code : BitVec 2 := s.mb.work[0].setWidth 2
  let enable := s.mb.work[1] == 1
  let reply (r : ResultCode) (w : Watchdog) : State :=
    complete r ((Row.zero.set 0 (watchdogCode w.state)).set 1 (w.pending.setWidth 8)) { s with wd := w }
  if s.wd.state = .disabled then
    if enable then reply .ok { state := .armed, count := 0, active := code, pending := code }
    else reply .ok { s.wd with pending := code }
  else
    if enable then reply .ok { s.wd with pending := code }
    else reply .locked s.wd

/-- WATCHDOG-SET's effect (R171). -/
def watchdogSetBody (s : State) : State :=
  withChecks [(decide (s.mb.work[0].toNat ≤ 3), 0), (decide (s.mb.work[1].toNat ≤ 1), 1)] watchdogSetAct s

/-- WATCHDOG_SET (R171). -/
def execWatchdogSet (s : State) : Host.Outcome State Fault Refusal := .next (commandStep 0x70 watchdogSetBody s)

/-- A kick: an enabled watchdog restarts in ARMED with the count 0 and the pending period (R172). -/
def kickWatchdog (s : State) : State :=
  if s.wd.state = .disabled then s
  else { s with wd := { s.wd with state := .armed, count := 0, active := s.wd.pending } }

/-- WDKICK (R172). -/
def execWdkick (_d : Byte) (s : State) : Host.Outcome State Fault Refusal := .next (hostWrite kickWatchdog s)

end Sys2Proof.Machine
end

