-- ==== Sys2Proof/Machine/HostPort.lean ====
section
/-!
DEFINITION. Machine/HostPort.lean: the register window (section 1.2.2) as one read and one write of any of its 64
addresses, and the host accesses that have no block of their own: plain register writes, the holding latches, and FLDB.
-/

namespace Sys2Proof.Machine

/-! ### Holding latches (R2, R3) and FLDB (R134) -/

/-- A low-byte write of a write-only pair fills the write holding latch (R2). -/
def fillWriteLatch (d : Byte) (s : State) : State := { s with port := { s.port with writeLatch := d } }

/-- A low-byte read of a read-only pair copies the high byte of the same value into the read holding latch (R3). -/
def fillReadLatch (value : State → Half) (s : State) : State :=
  { s with port := { s.port with readLatch := highByte (value s) } }

/-- A read of FLDB unlocks the fault record; its fields stay (R134, R135). -/
def unlockFault (s : State) : State := { s with fault := { s.fault with locked := false } }

/-- FLDB_READ (R134). -/
def execFldbRead (s : State) : Host.Outcome State Fault Refusal :=
  .next (hostRead (fun s => s.fault.detailB) unlockFault s)

/-! ### The window as a whole (R1, section 1.2.2) -/

/-- The value that a read of an address returns; 0x00 where no register can be read (R1). -/
def readValue (a : Addr) (s : State) : Byte :=
  match a.toNat with
  | 0x00 => 0x47
  | 0x01 => 0x01
  | 0x02 => statusByte s
  | 0x03 => s.tr.lampsReg.setWidth 8
  | 0x05 => (mailboxStateCode s.mb.state <<< 4) ||| resultCode s.mb.result
  | 0x08 => s.mb.args[0]
  | 0x09 => s.mb.args[1]
  | 0x0A => s.mb.args[2]
  | 0x0B => s.mb.args[3]
  | 0x0C => s.mb.args[4]
  | 0x0D => s.mb.args[5]
  | 0x0E => s.mb.args[6]
  | 0x0F => s.mb.args[7]
  | 0x10 => s.mb.res[0]
  | 0x11 => s.mb.res[1]
  | 0x12 => s.mb.res[2]
  | 0x13 => s.mb.res[3]
  | 0x14 => s.mb.res[4]
  | 0x15 => s.mb.res[5]
  | 0x16 => s.mb.res[6]
  | 0x17 => s.mb.res[7]
  | 0x18 => byteOf (queueCount s)
  | 0x19 => s.tq.lost
  | 0x1A => headLowByte s
  | 0x1B => latchedHighByte s
  | 0x1C => latchedInfo s
  | 0x1D => latchedPosition s
  | 0x1F => bitAt 0 s.scan.run
  | 0x20 => bitAt 0 s.lv.switch
  | 0x21 => acceptByte s
  | 0x23 => topByte s
  | 0x24 => byteOf s.lv.stack.length
  | 0x2A => lowByte s.lv.enables
  | 0x2B => s.port.readLatch
  | 0x30 => lowByte (pendingWord s)
  | 0x31 => s.port.readLatch
  | 0x32 => lowByte (sourceWord s)
  | 0x33 => s.port.readLatch
  | 0x37 => match s.id.state with
    | .idle => 0
    | .run => 1
    | .done => 2
  | 0x38 => s.id.source
  | 0x39 => s.id.code
  | 0x3A => causeCode s.fault.cause
  | 0x3B => originCode s.fault.origin
  | 0x3C => s.fault.detailA
  | 0x3D => byteOf s.fault.lost
  | 0x3E => s.fault.detailB
  | _ => 0

/-- The side effect of a read of an address (R1): TQLOST, TQHT0, LVACC and FLDB have their own, and the low bytes of LVEN,
LVPND and SRCLT fill the read holding latch. -/
def readEffect (a : Addr) : State → State :=
  match a.toNat with
  | 0x19 => clearLost
  | 0x1A => takeSnapshot
  | 0x21 => acceptLevel
  | 0x2A => fillReadLatch (fun s => s.lv.enables)
  | 0x30 => fillReadLatch pendingWord
  | 0x32 => fillReadLatch sourceWord
  | 0x3E => unlockFault
  | _ => id

/-- A write to SCANC (R37, R38). -/
def writeScanc (d : Byte) : State → State :=
  if d = 0 then stopScanning else if d = 1 then startScanning else id

/-- A write to an argument byte (R14). -/
def writeArg (i : Nat) (d : Byte) (s : State) : State :=
  { s with mb := { s.mb with args := s.mb.args.setIfInBounds i d } }

/-- The action of a write to an address; none where no register can be written (R1). -/
def writeAction (a : Addr) (d : Byte) : State → State :=
  match a.toNat with
  | 0x03 => writeLamps d
  | 0x04 => startCommand d
  | 0x08 => writeArg 0 d
  | 0x09 => writeArg 1 d
  | 0x0A => writeArg 2 d
  | 0x0B => writeArg 3 d
  | 0x0C => writeArg 4 d
  | 0x0D => writeArg 5 d
  | 0x0E => writeArg 6 d
  | 0x0F => writeArg 7 d
  | 0x1E => removeHead
  | 0x1F => writeScanc d
  | 0x20 => writeSwitch d
  | 0x22 => releaseLevel
  | 0x26 => fillWriteLatch d
  | 0x27 => fun s => setEnables (committed d s) s
  | 0x28 => fillWriteLatch d
  | 0x29 => fun s => clearEnables (committed d s) s
  | 0x2C => fillWriteLatch d
  | 0x2D => fun s => setSoft (committed d s) s
  | 0x2E => fillWriteLatch d
  | 0x2F => fun s => clearSoft (committed d s) s
  | 0x34 => fillWriteLatch d
  | 0x35 => fun s => clearSources (committed d s) s
  | 0x36 => startIdentify d
  | 0x3F => kickWatchdog
  | _ => id

/-- REGISTER_WRITE (R1): a write to an address with no row of its own stores an argument byte or has no effect; given any
other address it is that address's write (log entry 6). -/
def execRegisterWrite (a : Addr) (d : Byte) (s : State) : Host.Outcome State Fault Refusal :=
  .next (hostWrite (writeAction a d) s)

/-- LOW_BYTE_WRITE (R2); given an address that is no low byte of a write-only pair it is that address's write (log entry
6). -/
def execLowByteWrite (a : Addr) (d : Byte) (s : State) : Host.Outcome State Fault Refusal :=
  .next (hostWrite (writeAction a d) s)

/-- LOW_BYTE_READ (R3); given any other address it is that address's read (R1; log entry 6). -/
def execLowByteRead (a : Addr) (s : State) : Host.Outcome State Fault Refusal :=
  .next (hostRead (readValue a) (readEffect a) s)

end Sys2Proof.Machine
end

