-- ==== Sys2Proof/Machine/Backup.lean ====
section
/-!
DEFINITION. Machine/Backup.lean: Chapter 9. The commands of the backup memory, validation, the configuration load and the
reset record.
-/

namespace Sys2Proof.Machine

/-! ### Host area and reset record (R163, R164, R166) -/

/-- BACKUP-READ's effect (R163). -/
def backupReadBody (s : State) : State :=
  let a := s.mb.work[0].toNat
  let n := s.mb.work[1].toNat
  withChecks
    [(decide (a ≤ 63), 0), (decide (1 ≤ n) && decide (n ≤ 8), 1), (decide (a + n ≤ 64), 1)]
    (fun s => complete .ok (Vector.ofFn (fun i : Fin 8 => if i.val < n then memByte s.mem (a + i.val) else 0)) s) s

/-- BACKUP_READ (R163). -/
def execBackupRead (s : State) : Host.Outcome State Fault Refusal := .next (commandStep 0x50 backupReadBody s)

/-- The bytes that BACKUP-WRITE writes, in order: ARG2 onward from address ARG0 (R164). -/
def hostBytes (work : Row) : List (Nat × Byte) :=
  (List.range work[1].toNat).map (fun i => (work[0].toNat + i, work.getD (i + 2) 0))

/-- BACKUP-WRITE's effect (R164). -/
def backupWriteBody (cut : Option Nat) (s : State) : State :=
  let a := s.mb.work[0].toNat
  let n := s.mb.work[1].toNat
  withChecksCut cut
    [(decide (a ≤ 33), 0), (decide (1 ≤ n) && decide (n ≤ 6), 1), (decide (a + n ≤ 34), 1)]
    (fun s => writeBackup cut (hostBytes s.mb.work) s) s

/-- BACKUP_WRITE (R164, R168). -/
def execBackupWrite (cut : Option Nat) (s : State) : Host.Outcome State Fault Refusal :=
  .next (commandStep 0x51 (backupWriteBody cut) s)

/-- READ_RESET_RECORD (R166). -/
def execReadResetRecord (s : State) : Host.Outcome State Fault Refusal :=
  .next (commandStep 0x52 (fun s => complete .ok
    #v[memByte s.mem 58, memByte s.mem 59, memByte s.mem 60, memByte s.mem 61, memByte s.mem 62, 0, 0, 0] s) s)

/-- CLEAR_RESET_RECORD (R166, R168). -/
def execClearResetRecord (cut : Option Nat) (s : State) : Host.Outcome State Fault Refusal :=
  .next (commandStep 0x53 (writeBackup cut [(60, 0), (61, 0), (62, 0)]) s)

/-! ### The configuration image (R159, R161, R165) -/

/-- The image of a configuration as the bytes that SAVE-CONFIG writes, 34 to 57 in ascending order (R159, R165). -/
def imageBytes (c : OpConfig) : List (Nat × Byte) := (List.range 24).map (fun i => (34 + i, imageByte c i))

/-- SAVE_CONFIG (R165, R168). -/
def execSaveConfig (cut : Option Nat) (s : State) : Host.Outcome State Fault Refusal :=
  .next (commandStep 0x62 (fun s => writeBackup cut (imageBytes s.cfg) s) s)

/-- The image byte of field `id` (R159). -/
def fieldByte (m : Memory) (id : Nat) : Byte := memByte m (33 + id)

/-- The value that the load gives field `id`: the image byte in range, otherwise the factory default (R161). -/
def loadedField (m : Memory) (id : Nat) : Byte :=
  if fieldInRange id (fieldByte m id) then fieldByte m id else fieldDefault id

/-- A chord entry of the image is in range (R159). -/
def chordInRange (m : Memory) (i : Nat) : Bool :=
  decide ((memByte m (46 + 3 * i)).toNat ≤ 7) && decide ((memByte m (47 + 3 * i)).toNat ≤ 127) &&
  (memByte m (48 + 3 * i) &&& 0x7C) == 0

/-- The chord entry that the load gives: the image's in range, otherwise the factory entry, disabled (R161). -/
def loadedChord (m : Memory) (i : Nat) : Chord :=
  if chordInRange m i then
    chordOf (memByte m (46 + 3 * i)) (memByte m (47 + 3 * i)) (memByte m (48 + 3 * i))
      ((memByte m (48 + 3 * i)).getLsbD 7)
  else {}

/-- The configuration loaded from the image, each item repaired separately (R161). -/
def loadedConfig (m : Memory) : OpConfig where
  scanPeriod := loadedField m 1
  debounce := loadedField m 2
  driveCount := loadedField m 3
  repeatDelay := loadedField m 4
  repeatInterval := loadedField m 5
  repeatThrottle := loadedField m 6
  watermark := loadedField m 7
  lockMode := loadedField m 8
  compose := loadedField m 9
  lampMode := loadedField m 10
  tickRate := loadedField m 11
  chain := loadedField m 12
  chords := Vector.ofFn (fun i : Fin 4 => loadedChord m i.val)

/-- The configuration load (R161). -/
def loadConfig (s : State) : State := { s with cfg := loadedConfig s.mem }

/-- The number of fields that the load repairs (R165). -/
def fieldRepairs (m : Memory) : Nat := (List.range 12).countP (fun i => !fieldInRange (i + 1) (fieldByte m (i + 1)))

/-- The number of chord entries that the load repairs (R165). -/
def chordRepairs (m : Memory) : Nat := (List.range 4).countP (fun i => !chordInRange m i)

/-- LOAD-CONFIG's effect (R165). -/
def loadConfigBody (s : State) : State :=
  complete .ok ((Row.zero.set 0 (byteOf (fieldRepairs s.mem))).set 1 (byteOf (chordRepairs s.mem))) (loadConfig s)

/-- LOAD_CONFIG (R165). -/
def execLoadConfig (s : State) : Host.Outcome State Fault Refusal := .next (commandStep 0x63 loadConfigBody s)

/-! ### Validation and the reset record (R160, R162) -/

/-- The memory is found invalid (R160). -/
def foundInvalid (reason : ResetReason) (vbatLow : Bool) (m : Memory) : Bool :=
  reason == .cold || vbatLow || !memConsistent m

/-- The validation rewrite: bytes 0 to 62 in ascending order, then the checksum (R160, R177). -/
def validationWrites : List (Nat × Byte) := (List.range 64).map (fun a => (a, factoryByte a))

/-- The count increased by one; a count at 255 stays (R162). -/
def countUp (b : Byte) : Byte := if b = 255 then 255 else b + 1

/-- The reset record update: previous reason, last reason, the count of the reason, then the checksum (R162). -/
def recordWrites (reason : ResetReason) (m : Memory) : List (Nat × Byte) :=
  withChecksum m
    ([(59, memByte m 58), (58, reasonCode reason)] ++
     match countAddress reason with
     | some a => [(a, countUp (memByte m a))]
     | none => [])

/-- The BACKUP-INVALID fault: the sum as found, and BATLOW of the sample (R160). -/
def invalidFault (vbatLow : Bool) (m : Memory) : FaultReport :=
  ⟨.backupInvalid, .backup, memSum m 64, bitAt 0 vbatLow⟩

end Sys2Proof.Machine
end

