-- ==== Sys2Proof/Machine/Timebase.lean ====
section
/-!
DEFINITION. Machine/Timebase.lean: Chapter 8. The timebase tick with its seven items, the calendar, the clock and alarm
commands, rate adjustment, and the oscillator halt.
-/

namespace Sys2Proof.Machine

/-! ### Counting (R139, R141, R152) -/

/-- The calendar at a second boundary: the carry through every field that rolls over (R141). -/
def carrySecond (c : Calendar) : Calendar :=
  if c.second + 1 < 60 then { c with second := c.second + 1 }
  else if c.minute + 1 < 60 then { c with second := 0, minute := c.minute + 1 }
  else if c.hour + 1 < 24 then { c with second := 0, minute := 0, hour := c.hour + 1 }
  else
    let c := { c with second := 0, minute := 0, hour := 0, weekday := (c.weekday + 1) % 7 }
    if c.day + 1 ≤ monthLength c.year c.month then { c with day := c.day + 1 }
    else if c.month + 1 ≤ 12 then { c with day := 1, month := c.month + 1 }
    else { c with day := 1, month := 1, year := (c.year + 1) % 100 }

/-- The length of the tick interval that starts with the given sub-second and adjust second counters: the last interval of
the adjusted second is 512 less the adjust value (R152). -/
def intervalLength (sub adjSecond : Nat) (adjust : Byte) : Nat :=
  if sub = 63 ∧ adjSecond = 63 then (512 - adjust.toInt).toNat else 512

/-- The tick is a second boundary: the sub-second counter passes from 63 to 0 (R139). -/
def atBoundary (t : Timekeeper) : Bool := decide (63 ≤ t.sub)

/-- The carry rolls the time over from 23:59:59 to 00:00:00 (R151). -/
def atMidnight (t : Timekeeper) : Bool :=
  atBoundary t && t.cal.second == 59 && t.cal.minute == 59 && t.cal.hour == 23

/-- Item 1 of a tick step (R140): the counters advance, the carry is made, and the next interval's length is fixed. -/
def advance (t : Timekeeper) : Timekeeper :=
  let sub := if atBoundary t then 0 else t.sub + 1
  let adj := if atBoundary t then (t.adjSecond + 1) % 64 else t.adjSecond
  { t with
    cal := if atBoundary t then carrySecond t.cal else t.cal
    sub := sub
    adjSecond := adj
    prescaler := 0
    interval := intervalLength sub adj t.adjust }

/-! ### The alarm and the tick source (R148, R150) -/

/-- A time field of the alarm is ANY or equal to the time (R148). -/
def fieldMatches (f : Option Nat) (n : Nat) : Bool :=
  match f with
  | none => true
  | some m => m == n

/-- The armed alarm matches the time (R148). -/
def alarmMatches (a : Alarm) (c : Calendar) : Bool :=
  a.armed && fieldMatches a.hour c.hour && fieldMatches a.minute c.minute && fieldMatches a.second c.second

/-- Item 3 of a tick step at a second boundary (R148): the alarm fires into the ALARM latch while the main domain runs and
into the wake flag otherwise. -/
def compareAlarm (running : Bool) (s : State) : State :=
  if alarmMatches s.tk.alarm s.tk.cal then
    let s := { s with tk := { s.tk with alarm := { s.tk.alarm with armed := s.tk.alarm.armed && !s.tk.alarm.oneShot } } }
    if running then setLatch .alarm s else { s with tk := { s.tk with wake := true } }
  else s

/-- TICK-RATE chooses the sub-second value (R150). -/
def tickChosen (rate : Byte) (sub : Nat) : Bool :=
  match rate.toNat with
  | 0 => false
  | 1 => sub == 0
  | 2 => sub % 16 == 0
  | 3 => sub % 4 == 0
  | _ => true

/-- The battery sample (R167). -/
def sampleBattery (s : State) : State := { s with sup := { s.sup with batLow := batteryLow s.env.pins } }

/-- A tick counted in the stretch of nHRST (R180). -/
def stretchTick (s : State) : State :=
  if s.sup.phase = .stretch then { s with sup := { s.sup with stretchTicks := s.sup.stretchTicks + 1 } } else s

/-! ### The tick step (R140) -/

/-- Items 1 to 7 of a tick step; `running` says whether the main domain's items take place (R7, R140). -/
def tickItems (running : Bool) (s : State) : State :=
  let t := s.tk
  let s := { s with tk := advance t }
  let s := if running && atMidnight t then setLatch .dayChange s else s
  let s := if atBoundary t then compareAlarm running s else s
  let s := if running && tickChosen s.cfg.tickRate s.tk.sub then setLatch .tick s else s
  let s := if running && atBoundary t && s.tk.cal.second == 0 then sampleBattery s else s
  let s := if running then repeatTick s else s
  let s := if running then watchdogTick s else s
  if running then stretchTick s else s

/-- A timebase tick step, if a tick can occur (R139, R140, R154, R156). -/
def tickStep (s : State) : State :=
  if oscillatorRuns s then
    if mainRunning s then stepOf (tickItems true) s else tickItems false (samplePins s)
  else s

/-- TIMEBASE_TICK (R140). -/
def execTimebaseTick (s : State) : Host.Outcome State Fault Refusal := .next (tickStep s)

/-- REPEAT_EXPIRY (R85): the tick step in which the repeat expires, when the next tick is that one (log entry 11). -/
def execRepeatExpiry (s : State) : Host.Outcome State Fault Refusal :=
  .next (if mainRunning s && repeatDue s then tickStep s else s)

/-- FIRST_EXPIRY (R170): the tick step in which the watchdog expires in ARMED, when the next tick is that one (log entry
11). -/
def execFirstExpiry (s : State) : Host.Outcome State Fault Refusal :=
  .next (if mainRunning s && watchdogDue s.wd && s.wd.state == .armed then tickStep s else s)

/-- SECOND_EXPIRY (R170): the tick step in which the watchdog expires in WARNED, when the next tick is that one (log entry
11). -/
def execSecondExpiry (s : State) : Host.Outcome State Fault Refusal :=
  .next (if mainRunning s && watchdogDue s.wd && s.wd.state == .warned then tickStep s else s)

/-! ### Clock commands (R142 to R147, R152) -/

/-- What SET-TIME writes (R142). -/
def writeTime (s : State) : State :=
  { s with tk := { s.tk with
    cal := { s.tk.cal with
      hour := s.mb.work[0].toNat, minute := s.mb.work[1].toNat, second := s.mb.work[2].toNat }
    sub := 0
    prescaler := 0
    interval := 512
    adjSecond := 0
    timeSet := true } }

/-- SET-TIME's effect (R142). -/
def setTimeBody (cut : Option Nat) (s : State) : State :=
  withChecksCut cut
    [(decide (s.mb.work[0].toNat ≤ 23), 0), (decide (s.mb.work[1].toNat ≤ 59), 1), (decide (s.mb.work[2].toNat ≤ 59), 2)]
    (allOrNothing cut writeTime completeOk) s

/-- SET_TIME (R142). -/
def execSetTime (cut : Option Nat) (s : State) : Host.Outcome State Fault Refusal :=
  .next (commandStep 0x40 (setTimeBody cut) s)

/-- What SET-DATE writes (R143). -/
def writeDate (s : State) : State :=
  { s with tk := { s.tk with
    cal := { s.tk.cal with
      year := s.mb.work[0].toNat, month := s.mb.work[1].toNat, day := s.mb.work[2].toNat,
      weekday := s.mb.work[3].toNat }
    dateSet := true } }

/-- SET-DATE's effect (R143). -/
def setDateBody (cut : Option Nat) (s : State) : State :=
  withChecksCut cut
    [(decide (s.mb.work[0].toNat ≤ 99), 0),
     (decide (1 ≤ s.mb.work[1].toNat) && decide (s.mb.work[1].toNat ≤ 12), 1),
     (decide (1 ≤ s.mb.work[2].toNat) &&
      decide (s.mb.work[2].toNat ≤ monthLength s.mb.work[0].toNat s.mb.work[1].toNat), 2),
     (decide (s.mb.work[3].toNat ≤ 6), 3)]
    (allOrNothing cut writeDate completeOk) s

/-- SET_DATE (R143). -/
def execSetDate (cut : Option Nat) (s : State) : Host.Outcome State Fault Refusal :=
  .next (commandStep 0x41 (setDateBody cut) s)

/-- The result bytes of READ-TIME (R145). -/
def timeRow (t : Timekeeper) : Row :=
  #v[byteOf t.cal.second, byteOf t.cal.minute, byteOf t.cal.hour, byteOf t.cal.day, byteOf t.cal.month,
     byteOf t.cal.year, byteOf t.cal.weekday, byteOf t.sub]

/-- READ-TIME's effect (R145). -/
def readTimeBody (s : State) : State := complete (if clockValid s then .ok else .notValid) (timeRow s.tk) s

/-- READ_TIME (R145). -/
def execReadTime (s : State) : Host.Outcome State Fault Refusal := .next (commandStep 0x42 readTimeBody s)

/-- An alarm argument is in range: a value up to the maximum, or 0xFF for ANY (R146). -/
def alarmGood (max : Nat) (b : Byte) : Bool := decide (b.toNat ≤ max) || b == 0xFF

/-- What SET-ALARM writes (R146). -/
def writeAlarm (s : State) : State :=
  { s with tk := { s.tk with alarm :=
    { hour := alarmField s.mb.work[0], minute := alarmField s.mb.work[1], second := alarmField s.mb.work[2],
      oneShot := s.mb.work[3] == 1, armed := true } } }

/-- SET-ALARM's effect (R146): ARMED, changing nothing, while the alarm is armed. -/
def setAlarmBody (cut : Option Nat) (s : State) : State :=
  withChecksCut cut
    [(alarmGood 23 s.mb.work[0], 0), (alarmGood 59 s.mb.work[1], 1), (alarmGood 59 s.mb.work[2], 2),
     (decide (s.mb.work[3].toNat ≤ 1), 3)]
    (fun s =>
      if s.tk.alarm.armed then allOrNothing cut id (complete .armed Row.zero) s
      else allOrNothing cut writeAlarm completeOk s) s

/-- SET_ALARM (R146). -/
def execSetAlarm (cut : Option Nat) (s : State) : Host.Outcome State Fault Refusal :=
  .next (commandStep 0x43 (setAlarmBody cut) s)

/-- CLEAR-ALARM disarms and keeps the fields (R146). -/
def disarmAlarm (s : State) : State :=
  { s with tk := { s.tk with alarm := { s.tk.alarm with armed := false } } }

/-- CLEAR_ALARM (R146). -/
def execClearAlarm (cut : Option Nat) (s : State) : Host.Outcome State Fault Refusal :=
  .next (commandStep 0x44 (allOrNothing cut disarmAlarm completeOk) s)

/-- The result bytes of READ-ALARM (R147). -/
def alarmRow (t : Timekeeper) : Row :=
  #v[alarmByte t.alarm.hour, alarmByte t.alarm.minute, alarmByte t.alarm.second, bitAt 0 t.alarm.oneShot,
     bitAt 0 t.alarm.armed, t.adjust, bitAt 0 t.timeSet ||| bitAt 1 t.dateSet ||| bitAt 2 t.wake, 0]

/-- READ_ALARM (R147). -/
def execReadAlarm (s : State) : Host.Outcome State Fault Refusal :=
  .next (commandStep 0x45 (fun s => complete .ok (alarmRow s.tk) s) s)

/-- An adjust byte is in range: 0x00..0x3F or 0xC0..0xFF (R152). -/
def adjustGood (b : Byte) : Bool := decide (b.toNat < 0x40) || decide (0xC0 ≤ b.toNat)

/-- SET-ADJUST's effect (R152): the value is stored and the previous one returned. -/
def setAdjustBody (cut : Option Nat) (s : State) : State :=
  let old := s.tk.adjust
  withChecksCut cut [(adjustGood s.mb.work[0], 0)]
    (allOrNothing cut (fun s => { s with tk := { s.tk with adjust := s.mb.work[0] } })
      (complete .ok (Row.zero.set 0 old))) s

/-- SET_ADJUST (R152). -/
def execSetAdjust (cut : Option Nat) (s : State) : Host.Outcome State Fault Refusal :=
  .next (commandStep 0x46 (setAdjustBody cut) s)

/-! ### Oscillator halt (R153 to R155) -/

/-- TIME-SET and DATE-SET are cleared (R144). -/
def clearTimeFlags (s : State) : State := { s with tk := { s.tk with timeSet := false, dateSet := false } }

/-- The second field and the sub-second counter as the details of a CLOCK-HALT fault (R154, R155). -/
def haltDetails (s : State) : Byte × Byte := (byteOf s.tk.cal.second, byteOf s.tk.sub)

/-- The CLOCK-HALT fault (R154). -/
def haltFault (details : Byte × Byte) : FaultReport := ⟨.clockHalt, .timekeeper, details.1, details.2⟩

/-- No scan pass is ready while the oscillator is halted (R23; log entry 28). -/
def dropReadyPass (s : State) : State := { s with scan := { s.scan with ready := false } }

/-- The detector enters HALTED (R153). In part 1 of a full reset this is the finding of the oscillator check and no event of
its own, with the second field and the sub-second counter as they then stand (R155); otherwise a halt detection becomes
ready. -/
def enterHalted (s : State) : State :=
  let s' := dropReadyPass { s with sup := { s.sup with detector := .halted } }
  if s.sup.phase = .held then { s' with sup := { s'.sup with oscHalt := some (haltDetails s) } }
  else { s' with sup := { s'.sup with haltReady := true } }

/-- The step of a ready halt detection (R154). The detector keeps its state: an oscillator cycle since has already returned
it to WATCHING (R153). -/
def haltBody (s : State) : State :=
  capture (haltFault (haltDetails s)) (clearTimeFlags { s with sup := { s.sup with haltReady := false } })

/-- A HALT_DETECTION that comes is the detection that is ready; with none ready it says that the detector, in WATCHING,
enters HALTED (log entry 10). In HALTED the detector detects nothing (R153). -/
def detectHalt (s : State) : State :=
  if (s.sup.haltReady && s.sup.phase != .held) || s.sup.detector == .halted then s else enterHalted s

/-- A halt detection is ready outside part 1 of a full reset and a reset sequence that was cut short (R153 to R155). -/
def haltDue (s : State) : Bool :=
  s.sup.power == .mainOn && s.sup.phase != .held && !s.sup.cutShort && s.sup.haltReady

/-- HALT_DETECTION (R153 to R155), while MAIN-ON: the detection is taken as its own supervisory event, unless a reset request
of this LSI itself is to be taken before it (R7); it then stays ready, to be discarded by a full reset or taken after a
host-side one. -/
def execHaltDetection (s : State) : Host.Outcome State Fault Refusal :=
  .next (if s.sup.power = .mainOn ∧ s.sup.cutShort = false then
      let s' := detectHalt s
      if haltDue s' && s.sup.request == none then stepOf haltBody s' else s'
    else s)

/-- OSCILLATOR_RESUME (R153): an oscillator cycle puts the detector into WATCHING with the count 0, and gives the
oscillator check its cycle (R155). A halt detection that is ready stays ready. -/
def execOscillatorResume (s : State) : Host.Outcome State Fault Refusal :=
  .next (if s.sup.power = .mainOn then
      { s with sup := { s.sup with detector := .watching 0, oscSeen := true } }
    else s)

end Sys2Proof.Machine
end

