-- ==== Sys2Proof/Machine/Resets.lean ====
section
/-!
DEFINITION. Machine/Resets.lean: Chapter 10. The power states, reset requests and the reset sequences, and the host reset
output.
-/

namespace Sys2Proof.Machine

/-! ### Reset requests (R176, R177, R181) -/

/-- The reason of a full reset in progress whose supervisory step has not been taken, or of a request of this LSI itself:
what a new request merges with (R176). -/
def inProgress (s : State) : Option ResetReason :=
  match (if s.sup.phase = .held then s.sup.reason else none), s.sup.request with
  | some a, some b => some (mergeReason a b)
  | some a, none => some a
  | none, r => r

/-- The main domain is held in reset with a reason: part 1 of a full reset (R177, R179). -/
def enterPartOne (reason : Option ResetReason) (s : State) : State :=
  let s' := mainDomainReset true s
  { s' with sup := { s'.sup with phase := .held, reason := reason } }

/-- The body of NRESET while MAIN-ON: a full reset with reason PIN begins, or the request merges with the full reset in
progress (R176). -/
def pinReset (s : State) : State :=
  if s.sup.phase = .held then { s with sup := { s.sup with reason := some (mergeWith (inProgress s) .pin) } }
  else enterPartOne (some (mergeWith (inProgress s) .pin)) s

/-- NRESET (R176): nRESET requests a reset while MAIN-ON. In BROWN-OUT it merges into the reset that the return to MAIN-ON
makes, whose reason has a lower code, and without VDD it finds the main domain unpowered. -/
def execNreset (s : State) : Host.Outcome State Fault Refusal :=
  .next (if s.sup.power = .mainOn then stepOf pinReset s else s)

/-- The request of RESET-DEVICE is ready (R181). -/
def softReady (s : State) : Bool := s.sup.power == .mainOn && s.sup.request == some .soft && !s.sup.cutShort

/-- SOFT_FULL_RESET (R181): the request of RESET-DEVICE is taken and part 1 runs. -/
def execSoftFullReset (s : State) : Host.Outcome State Fault Refusal :=
  .next (if softReady s then stepOf (fun s => enterPartOne (inProgress s) s) s else s)

/-- RESET_DEVICE (R16, R181): the command requests a full reset with reason SOFT, changes nothing else and never
completes. -/
def execResetDevice (s : State) : Host.Outcome State Fault Refusal :=
  .next (commandStep 0x02 (requestReset .soft) s)

/-! ### Power states (R174) -/

/-- The main domain is held in reset in BROWN-OUT; the fault record stays until the full reset that follows (R138, R179). A
ready halt detection is discarded (R174). -/
def enterBrownOut (s : State) : State :=
  let reason := if s.sup.phase = .held then s.sup.reason else none
  let s' := mainDomainReset false s
  { s' with sup := { s'.sup with
    power := .brownOut, phase := .held, reason := reason, vddLost := false, haltReady := false } }

/-- BROWN_OUT_ENTRY (R174). -/
def execBrownOutEntry (s : State) : Host.Outcome State Fault Refusal :=
  .next (if s.sup.power = .mainOn then stepOf enterBrownOut s else s)

/-- The reason of the full reset that a return to MAIN-ON makes (R174, R176). -/
def returnReason (s : State) : ResetReason :=
  if s.sup.coldMarker then .cold
  else if s.sup.vddLost || s.sup.power == .batteryOnly then .powerOn
  else .brownOut

/-- VDD is at or above the brown-out level: part 1 of a full reset (R174, R177). That the oscillator check starts afresh here,
without a halt that it found in a part 1 which a brown-out interrupted, is the model's choice (log entry 30). -/
def enterMainOn (s : State) : State :=
  let s' := enterPartOne (some (mergeWith (inProgress s) (returnReason s))) s
  { s' with sup := { s'.sup with power := .mainOn, vddLost := false } }

/-- RETURN_TO_MAIN_ON (R174): from BROWN-OUT, or from BATTERY-ONLY when VDD had been absent. -/
def execReturnToMainOn (s : State) : Host.Outcome State Fault Refusal :=
  .next (if s.sup.power = .brownOut ∨ s.sup.power = .batteryOnly then stepOf enterMainOn s else s)

/-- VDD becomes absent: the main domain and its sequencer are unpowered (R174). -/
def loseVdd (s : State) : State :=
  { s with sup := { s.sup with
    power := if s.env.pins.vbatPresent then .batteryOnly else .dead
    reason := none
    vddLost := true } }

/-- VDD_LOSS (R174): from BROWN-OUT, through which a falling VDD always passes. -/
def execVddLoss (s : State) : Host.Outcome State Fault Refusal :=
  .next (if s.sup.power = .brownOut then stepOf loseVdd s else s)

/-- The backup memory after a loss of the battery domain: every byte is arbitrary (R168; log entry 3). -/
def arbitraryMemory (n : Nat) : Memory := memWrites [] ((List.range 64).map (fun a => (a, Config.lostByte n a)))

/-- The battery domain starts from DEAD (R157, R174): the timekeeper's defaults, an arbitrary memory, the cold marker. -/
def startBattery (s : State) : State :=
  { s with
    tk := {}
    mem := arbitraryMemory s.starts
    starts := s.starts + 1
    sup := { s.sup with coldMarker := true } }

/-- VDD becomes present below the brown-out level (R174). -/
def enterFromBelow (s : State) : State :=
  let s' := if s.sup.power = .dead then startBattery s else s
  { s' with sup := { s'.sup with power := .brownOut, phase := .held, vddLost := true } }

/-- VDD_BELOW_BROWN_OUT_LEVEL (R174): from BATTERY-ONLY or DEAD. -/
def execVddBelowBrownOutLevel (s : State) : Host.Outcome State Fault Refusal :=
  .next (if s.sup.power = .batteryOnly ∨ s.sup.power = .dead then stepOf enterFromBelow s else s)

/-- The presence of VBAT; the comparator's level stays as it stands (log entry 24). -/
def setVbat (present : Bool) (s : State) : State :=
  { s with env := { s.env with pins := { s.env.pins with vbatPresent := present } } }

/-- VBAT_LOSS (R174): DEAD from BATTERY-ONLY. While VDD is present the battery domain stays supplied and the power state
does not change. -/
def execVbatLoss (s : State) : Host.Outcome State Fault Refusal :=
  .next (if s.sup.power = .batteryOnly then
      stepOf (fun s => setVbat false { s with sup := { s.sup with power := .dead } }) s
    else setVbat false s)

/-- VBAT_PRESENT (R174, R157): BATTERY-ONLY from DEAD, with the start of the battery domain. Otherwise the power state does
not change. -/
def execVbatPresent (s : State) : Host.Outcome State Fault Refusal :=
  .next (if s.sup.power = .dead then
      stepOf (fun s =>
        let s' := startBattery (setVbat true s)
        { s' with sup := { s'.sup with power := .batteryOnly } }) s
    else setVbat true s)

/-! ### The reset sequences (R177, R178) -/

/-- Part 6: the ALARM latch is set if the wake flag is set (R149). -/
def transferWake (s : State) : State := if s.tk.wake then setLatch .alarm s else s

/-- A reset sequence ends with part 7: nHRST is still asserted and the stretch begins (R177, R180). -/
def enterStretch (reason : ResetReason) (s : State) : State :=
  { s with sup := { s.sup with
    phase := .stretch, reason := some reason, request := none, stretchTicks := 0, stretchClks := 0 } }

/-- A loss of VDD cuts the supervisory step of a reset sequence: the changes to the main domain are lost with it, and
those already made to the battery domain stand (R177). -/
def cutSequence (reason : ResetReason) (s : State) : State :=
  { s with sup := { s.sup with phase := .held, reason := some reason, request := none, cutShort := true } }

/-- The writes of parts 2 and 5 of a full reset to the backup memory, in order (R160, R162, R177). -/
def fullResetWrites (reason : ResetReason) (vbatLow : Bool) (m : Memory) : List (Nat × Byte) :=
  let rewrite := if foundInvalid reason vbatLow m then validationWrites else []
  rewrite ++ recordWrites reason (memWrites m rewrite)

/-- The faults of a full reset sequence, in the order of its parts (R137, R155, R160). -/
def fullResetFaults (reason : ResetReason) (s : State) : List FaultReport :=
  (if foundInvalid reason (batteryLow s.env.pins) s.mem then [invalidFault (batteryLow s.env.pins) s.mem] else []) ++
  (s.sup.oscHalt.map haltFault).toList

/-- Parts 2 to 7 of a full reset (R177): validation with its battery sample, configuration load, built-in layout, reset
record update with the cold marker cleared, wake-flag transfer, and fault capture with the flags that a halt clears. -/
def fullResetParts (reason : ResetReason) (s : State) : State :=
  let faults := fullResetFaults reason s
  let s := { s with
    mem := memWrites s.mem (fullResetWrites reason (batteryLow s.env.pins) s.mem)
    sup := { s.sup with
      batLow := batteryLow s.env.pins
      defaults := foundInvalid reason (batteryLow s.env.pins) s.mem
      coldMarker := false } }
  let s := transferWake (restoreLayout (loadConfig s))
  let s := if s.sup.oscHalt.isSome then clearTimeFlags s else s
  captureAll faults (enterStretch reason s)

/-- A full reset sequence cut after `k` changes to the battery domain: the byte writes, then the cold marker, then the time
flags if the oscillator check found a halt (R177). -/
def fullResetCut (k : Nat) (reason : ResetReason) (s : State) : State :=
  let writes := fullResetWrites reason (batteryLow s.env.pins) s.mem
  let s := { s with
    mem := memWrites s.mem (writes.take k)
    sup := { s.sup with coldMarker := s.sup.coldMarker && decide (k ≤ writes.length) } }
  let s := if s.sup.oscHalt.isSome && decide (writes.length + 1 < k) then clearTimeFlags s else s
  cutSequence reason s

/-- The oscillator check of part 1 has an outcome: a cycle has been seen, or the detector has entered HALTED (R155). -/
def oscillatorChecked (s : State) : Bool := s.sup.oscSeen || s.sup.oscHalt.isSome

/-- The supervisory step of parts 2 to 7 is ready once every reset cause has ended, VDD back and nRESET high, and the
oscillator check has its outcome (R155, R176, R177). -/
def fullResetReady (s : State) : Bool :=
  s.sup.power == .mainOn && s.sup.phase == .held && !s.sup.cutShort && oscillatorChecked s &&
  !(samplePins s).env.pins.nresetLow

/-- The supervisory step of a full reset (R177). -/
def fullResetBody (cut : Option Nat) (s : State) : State :=
  let reason := s.sup.reason.getD .powerOn
  match cut with
  | none => fullResetParts reason s
  | some k => fullResetCut k reason s

/-- FULL_RESET_SEQUENCE (R177). -/
def execFullResetSequence (cut : Option Nat) (s : State) : Host.Outcome State Fault Refusal :=
  .next (if fullResetReady s then stepOf (fullResetBody cut) s else s)

/-- A host-side reset request is ready (R178). -/
def hostSideReady (s : State) : Bool :=
  s.sup.power == .mainOn && s.sup.phase != .held && !s.sup.cutShort &&
  (s.sup.request == some .watchdog || s.sup.request == some .chord)

/-- The host-side reset (R178): part 1, then parts 3, 5, 6 and 7, which captures nothing; cut short, the first `k` bytes of
the record update stand (R177). -/
def hostSideBody (cut : Option Nat) (s : State) : State :=
  let reason := s.sup.request.getD .watchdog
  let s := mainDomainReset false s
  let writes := recordWrites reason s.mem
  match cut with
  | none => enterStretch reason (transferWake { loadConfig s with mem := memWrites s.mem writes })
  | some k => cutSequence reason { s with mem := memWrites s.mem (writes.take k) }

/-- HOST_SIDE_RESET (R178). -/
def execHostSideReset (cut : Option Nat) (s : State) : Host.Outcome State Fault Refusal :=
  .next (if hostSideReady s then stepOf (hostSideBody cut) s else s)

/-! ### The host reset output (R180) -/

/-- nHRST is released and scanning starts (R40, R180). -/
def releaseHost (s : State) : State :=
  restartScanTimer { s with sup := { s.sup with phase := .run, stretchTicks := 0, stretchClks := 0 } }

/-- The stretch of nHRST has ended: at once for PIN, at the second tick, or after 262,144 CLK periods (R180). -/
def stretchEnded (s : State) : Bool :=
  s.sup.reason == some .pin || decide (2 ≤ s.sup.stretchTicks) || decide (262144 ≤ s.sup.stretchClks)

/-- nHRST_RELEASE can be taken: part 7 has ended, nHRST is still asserted, and the stretch has ended (R180). -/
def releaseReady (s : State) : Bool := mainRunning s && s.sup.phase == .stretch && stretchEnded s

/-- NHRST_RELEASE (R180). -/
def execNhrstRelease (s : State) : Host.Outcome State Fault Refusal :=
  .next (if releaseReady s then stepOf releaseHost s else s)

end Sys2Proof.Machine
end

