-- ==== Sys2Proof/Machine/Dispatch.lean ====
section
/-! DEFINITION. Machine/Dispatch.lean: one arm per command, in the table's order. -/

namespace Sys2Proof.Machine

def exec (i : Instr) (s : State) : Host.Outcome State Fault Refusal :=
  match i with
  | .registerWrite a d => Sys2Proof.Machine.execRegisterWrite a d s
  | .lowByteWrite a d => Sys2Proof.Machine.execLowByteWrite a d s
  | .lowByteRead a => Sys2Proof.Machine.execLowByteRead a s
  | .lampsWrite d => Sys2Proof.Machine.execLampsWrite d s
  | .mbcmdWrite d => Sys2Proof.Machine.execMbcmdWrite d s
  | .badCommand => Sys2Proof.Machine.execBadCommand s
  | .echo => Sys2Proof.Machine.execEcho s
  | .resetDevice => Sys2Proof.Machine.execResetDevice s
  | .loadEntry => Sys2Proof.Machine.execLoadEntry s
  | .readEntry => Sys2Proof.Machine.execReadEntry s
  | .setClass => Sys2Proof.Machine.execSetClass s
  | .readClass => Sys2Proof.Machine.execReadClass s
  | .restoreLayout => Sys2Proof.Machine.execRestoreLayout s
  | .setChord => Sys2Proof.Machine.execSetChord s
  | .readChord => Sys2Proof.Machine.execReadChord s
  | .setLocks => Sys2Proof.Machine.execSetLocks s
  | .readKeystate => Sys2Proof.Machine.execReadKeystate s
  | .endHold => Sys2Proof.Machine.execEndHold s
  | .insert => Sys2Proof.Machine.execInsert s
  | .flush => Sys2Proof.Machine.execFlush s
  | .setRoute => Sys2Proof.Machine.execSetRoute s
  | .readRoute => Sys2Proof.Machine.execReadRoute s
  | .setTime cut => Sys2Proof.Machine.execSetTime cut s
  | .setDate cut => Sys2Proof.Machine.execSetDate cut s
  | .readTime => Sys2Proof.Machine.execReadTime s
  | .setAlarm cut => Sys2Proof.Machine.execSetAlarm cut s
  | .clearAlarm cut => Sys2Proof.Machine.execClearAlarm cut s
  | .readAlarm => Sys2Proof.Machine.execReadAlarm s
  | .setAdjust cut => Sys2Proof.Machine.execSetAdjust cut s
  | .backupRead => Sys2Proof.Machine.execBackupRead s
  | .backupWrite cut => Sys2Proof.Machine.execBackupWrite cut s
  | .readResetRecord => Sys2Proof.Machine.execReadResetRecord s
  | .clearResetRecord cut => Sys2Proof.Machine.execClearResetRecord cut s
  | .setConfig => Sys2Proof.Machine.execSetConfig s
  | .readConfig => Sys2Proof.Machine.execReadConfig s
  | .saveConfig cut => Sys2Proof.Machine.execSaveConfig cut s
  | .loadConfig => Sys2Proof.Machine.execLoadConfig s
  | .watchdogSet => Sys2Proof.Machine.execWatchdogSet s
  | .tqlostRead => Sys2Proof.Machine.execTqlostRead s
  | .headSnapshot => Sys2Proof.Machine.execHeadSnapshot s
  | .tqtake d => Sys2Proof.Machine.execTqtake d s
  | .scancStop => Sys2Proof.Machine.execScancStop s
  | .scancRun => Sys2Proof.Machine.execScancRun s
  | .lvctlWrite d => Sys2Proof.Machine.execLvctlWrite d s
  | .accept => Sys2Proof.Machine.execAccept s
  | .release d => Sys2Proof.Machine.execRelease d s
  | .lvens d => Sys2Proof.Machine.execLvens d s
  | .lvenc d => Sys2Proof.Machine.execLvenc d s
  | .lvrqs d => Sys2Proof.Machine.execLvrqs d s
  | .lvrqc d => Sys2Proof.Machine.execLvrqc d s
  | .srccl d => Sys2Proof.Machine.execSrccl d s
  | .idstart d => Sys2Proof.Machine.execIdstart d s
  | .fldbRead => Sys2Proof.Machine.execFldbRead s
  | .wdkick d => Sys2Proof.Machine.execWdkick d s
  | .selectionStep => Sys2Proof.Machine.execSelectionStep s
  | .presence => Sys2Proof.Machine.execPresence s
  | .presenceReleased => Sys2Proof.Machine.execPresenceReleased s
  | .answerWindowTimeout => Sys2Proof.Machine.execAnswerWindowTimeout s
  | .presenceStuckTimeout => Sys2Proof.Machine.execPresenceStuckTimeout s
  | .identityShiftEnd bits => Sys2Proof.Machine.execIdentityShiftEnd bits s
  | .chainCycleCompletion => Sys2Proof.Machine.execChainCycleCompletion s
  | .timebaseTick => Sys2Proof.Machine.execTimebaseTick s
  | .repeatExpiry => Sys2Proof.Machine.execRepeatExpiry s
  | .firstExpiry => Sys2Proof.Machine.execFirstExpiry s
  | .secondExpiry => Sys2Proof.Machine.execSecondExpiry s
  | .scanPass seen => Sys2Proof.Machine.execScanPass seen s
  | .haltDetection => Sys2Proof.Machine.execHaltDetection s
  | .oscillatorResume => Sys2Proof.Machine.execOscillatorResume s
  | .nreset => Sys2Proof.Machine.execNreset s
  | .brownOutEntry => Sys2Proof.Machine.execBrownOutEntry s
  | .returnToMainOn => Sys2Proof.Machine.execReturnToMainOn s
  | .vddLoss => Sys2Proof.Machine.execVddLoss s
  | .vddBelowBrownOutLevel => Sys2Proof.Machine.execVddBelowBrownOutLevel s
  | .vbatLoss => Sys2Proof.Machine.execVbatLoss s
  | .vbatPresent => Sys2Proof.Machine.execVbatPresent s
  | .fullResetSequence cut => Sys2Proof.Machine.execFullResetSequence cut s
  | .hostSideReset cut => Sys2Proof.Machine.execHostSideReset cut s
  | .nhrstRelease => Sys2Proof.Machine.execNhrstRelease s
  | .softFullReset => Sys2Proof.Machine.execSoftFullReset s

end Sys2Proof.Machine
end

