-- ==== Sys2Proof/Machine/Schedule.lean ====
section
/-!
DEFINITION. Machine/Schedule.lean: section 1.3. The precedence of the kinds of step, the arrival of a command in the queue,
the steps that are ready inside this LSI when no command waits, and the passing of one CLK period, in which the counters
of the manual count (log entries 9, 10 and 13).
-/

namespace Sys2Proof.Machine

/-! ### Precedence and arrival (R5 to R7) -/

/-- The kinds of step (R5), the supervisory events in their own order (R7): change of power state, request of a full reset,
request of a host-side reset, halt detection. A full reset that meets a host-side one is taken first, so that the two merge
(R176); the step of a sequence waits behind every request, which merges with it, and R7 does not name it: that it goes
before a halt detection is the model's choice (log entry 31). The release of nHRST comes before all (R180; log entry 27). The
events of the chain line stand with the identify engine. -/
inductive StepKind where
  | release | power | fullReset | hostSideReset | sequence | halt | hostAccess | tick | scanPass | identify | command
  deriving DecidableEq, Repr

/-- The order of precedence; a lower number is taken first (R5, R7). The place of `sequence` before `halt` is the model's
choice (log entry 31). -/
def precedence : StepKind → Nat
  | .release => 0
  | .power => 1
  | .fullReset => 2
  | .hostSideReset => 3
  | .sequence => 4
  | .halt => 5
  | .hostAccess => 6
  | .tick => 7
  | .scanPass => 8
  | .identify => 9
  | .command => 10

/-- The kind of step of each command of the table (R5). An oscillator cycle, a change of VBAT with VDD present and an event of
the chain line are no steps and R5 gives them no place; that they stand with the halt detection, the changes of power state
and the identify engine is the model's choice (log entry 29). -/
def kindOf : Instr → StepKind
  | .registerWrite _ _ | .lowByteWrite _ _ | .lowByteRead _ | .lampsWrite _ | .mbcmdWrite _ | .tqlostRead
  | .headSnapshot | .tqtake _ | .scancStop | .scancRun | .lvctlWrite _ | .accept | .release _ | .lvens _ | .lvenc _
  | .lvrqs _ | .lvrqc _ | .srccl _ | .idstart _ | .fldbRead | .wdkick _ => .hostAccess
  | .badCommand | .echo | .resetDevice | .loadEntry | .readEntry | .setClass | .readClass | .restoreLayout | .setChord
  | .readChord | .setLocks | .readKeystate | .endHold | .insert | .flush | .setRoute | .readRoute | .setTime _
  | .setDate _ | .readTime | .setAlarm _ | .clearAlarm _ | .readAlarm | .setAdjust _ | .backupRead | .backupWrite _
  | .readResetRecord | .clearResetRecord _ | .setConfig | .readConfig | .saveConfig _ | .loadConfig | .watchdogSet =>
    .command
  | .selectionStep | .presence | .presenceReleased | .answerWindowTimeout | .presenceStuckTimeout
  | .identityShiftEnd _ | .chainCycleCompletion => .identify
  | .timebaseTick | .repeatExpiry | .firstExpiry | .secondExpiry => .tick
  | .scanPass _ => .scanPass
  | .haltDetection | .oscillatorResume => .halt
  | .brownOutEntry | .returnToMainOn | .vddLoss | .vddBelowBrownOutLevel | .vbatLoss | .vbatPresent => .power
  | .nreset | .softFullReset => .fullReset
  | .hostSideReset _ => .hostSideReset
  | .fullResetSequence _ => .sequence
  | .nhrstRelease => .release

/-- Where a command that becomes ready joins the waiting ones: behind those of its own kind and of higher precedence, and
before the first of lower precedence (R4, R5). -/
def insertByPrecedence (c : Instr) : List Instr → List Instr
  | [] => [c]
  | d :: rest =>
    if precedence (kindOf c) < precedence (kindOf d) then c :: d :: rest else d :: insertByPrecedence c rest

/-- A step of the main domain that a reset of the main domain discards when it is ready and not taken (R7). -/
def discardedByReset : StepKind → Bool
  | .hostAccess | .scanPass | .identify | .command => true
  | _ => false

/-- Whether the command's step begins a reset of the main domain, and whether that reset is full (R7, R174, R176, R178). An
NRESET that finds the main domain held in reset begins none: it merges with the reset in progress (R176). -/
def beginsReset (s : State) : Instr → Option Bool
  | .nreset => if s.sup.power = .mainOn ∧ s.sup.phase ≠ .held then some true else none
  | .softFullReset => if softReady s then some true else none
  | .brownOutEntry => if s.sup.power = .mainOn then some true else none
  | .returnToMainOn => if s.sup.power = .brownOut ∨ s.sup.power = .batteryOnly then some true else none
  | .hostSideReset _ => if hostSideReady s then some false else none
  | _ => none

/-- A write of 0x00 to SCANC, which stops scanning (R37). -/
def stopsScanning : Instr → Bool
  | .scancStop => true
  | .registerWrite a d | .lowByteWrite a d => a == 0x1F#6 && d == 0
  | _ => false

/-- A command after whose arrival no waiting scan pass is ready: a stop of scanning, or a halt of the oscillator (R23, R37;
log entry 28). -/
def endsPasses (c : Instr) : Bool := stopsScanning c || c == .haltDetection

/-- The reset step `c`, ready and not yet taken, discards the ready step `d`: the beginning of a reset every host access,
scan pass, identify step and mailbox command step, that of a full reset a halt detection too (R7), and the step that ends
part 1 what became ready while the main domain was held (R179). -/
def resetDiscards (s : State) (c d : Instr) : Bool :=
  match beginsReset s c with
  | some full => discardedByReset (kindOf d) || (full && d == .haltDetection)
  | none => kindOf c == .sequence && heldInReset s && discardedByReset (kindOf d)

/-- The arrival of `c` discards the waiting command `d`: as a reset, or as a stop or a halt that discards a scan pass (R7,
R23, R37). -/
def discardedBy (s : State) (c d : Instr) : Bool :=
  resetDiscards s c d || (endsPasses c && kindOf d == .scanPass)

/-- No scan pass becomes ready behind these waiting commands: a write of 0x00 to SCANC waits, or a halt with no oscillator
cycle after it (R23, R37, R39). -/
def passesEnded (waiting : List Instr) : Bool :=
  waiting.any stopsScanning || (waiting.contains .haltDetection && !waiting.contains .oscillatorResume)

/-- The arriving command `c` is discarded by what waits: a reset that is to be taken before it (R7), or the end of scan
passes (R23, R37). -/
def discardedOnArrival (s : State) (c : Instr) : Bool :=
  s.pending.any (fun d => resetDiscards s d c) || (kindOf c == .scanPass && passesEnded s.pending)

/-- The arrival of a command: what its sender does to the queue, which `step` then takes from the front. A step that is ready
together with a reset never takes place, whichever of the two came first (R7; log entry 13). -/
def State.submit (c : Instr) (s : State) : State :=
  if discardedOnArrival s c then s
  else { s with pending := insertByPrecedence c (s.pending.filter (fun d => !discardedBy s c d)) }

/-! ### Steps that are ready inside this LSI -/

/-- The supervisory event that is ready, if one is: a request of this LSI itself, the release of nHRST, the supervisory step
of a full reset, a halt detection (R5, R7, R177, R180). No request is ready together with the release. That a ready release
whose reason is not PIN goes before a ready halt detection is the model's choice (log entry 27). The step of a full reset
and a halt detection are never ready together here: in part 1 a halt is a finding (R155; log entry 31). -/
def readySupervisory (s : State) : Option Instr :=
  if softReady s then some .softFullReset
  else if hostSideReady s then some (.hostSideReset none)
  else if releaseReady s then some .nhrstRelease
  else if fullResetReady s then some (.fullResetSequence none)
  else if haltDue s then some .haltDetection
  else none

/-- The event of the chain line or of the chain timer that comes next in a running cycle (R122 to R125): the answer window
and the release wait are 64 CHC periods of 32 CLK periods, the shift 2 and 9, the settling interval 4. -/
def readyChain (s : State) : Option Instr :=
  match runningCycle s with
  | none => none
  | some c =>
    match c.phase with
    | .presence =>
      if s.env.pins.chdLow then some .presence
      else if 64 * 32 ≤ c.time then some .answerWindowTimeout
      else none
    | .release =>
      if !s.env.pins.chdLow then some .presenceReleased
      else if 64 * 32 ≤ c.time then some .presenceStuckTimeout
      else none
    | .shift => if 11 * 32 ≤ c.time then some (.identityShiftEnd c.bits) else none
    | .settling _ => if 4 * 32 ≤ c.time then some .chainCycleCompletion else none

/-- The mailbox command step that is ready (R10). -/
def readyCommand (s : State) : Option Instr :=
  if mainRunning s && s.mb.state == .busy then
    s.mb.running.map (fun code => (commandOf code).getD .badCommand)
  else none

/-- The ready step of highest precedence inside this LSI (R5). A scan pass carries the key levels that it finds at its own
start (R22; log entry 4). -/
def nextReady (s : State) : Option Instr :=
  (readySupervisory s).or <|
  (if oscillatorRuns s && decide (s.tk.interval ≤ s.tk.prescaler) then some .timebaseTick else none).or <|
  (if scanRuns s && s.scan.ready then some (.scanPass (samplePins s).env.pins.matrix) else none).or <|
  (if selectionReady s then some .selectionStep else none).or <|
  (readyChain s).or (readyCommand s)

/-! ### One CLK period -/

/-- The halt detector after a CLK period, apart from the entry into HALTED (R153): an oscillator cycle sets the count to 0
and ends HALTED, its absence raises the count. -/
def detectorPeriod (cycle : Bool) : Detector → Detector
  | .watching n => if cycle then .watching 0 else .watching (n + 1)
  | .halted => if cycle then .watching 0 else .halted

/-- The count of the halt detector has reached 8192 (R153). -/
def countReached : Detector → Bool
  | .watching n => decide (8192 ≤ n)
  | .halted => false

/-- A CLK period in the halt detector and the oscillator check: at the count 8192 the detector enters HALTED (R153, R155). -/
def detectPeriod (s : State) : State :=
  let s' := { s with sup := { s.sup with
    detector := detectorPeriod s.env.pins.oscCycle s.sup.detector
    oscSeen := s.sup.oscSeen || s.env.pins.oscCycle } }
  if countReached s'.sup.detector then enterHalted s' else s'

/-- CHC is low during the CLK period `t` (from 0) of the shift phase: nine pulses follow 2 CHC periods, each low for 16 CLK
periods and high for 16 (R123, R124). -/
def chcLow (t : Nat) : Bool := decide (64 ≤ t) && decide (t < 352) && decide (t % 32 < 16)

/-- The CLK period `t` of the shift phase ends at a rising edge of CHC (R124). -/
def risingEdge (t : Nat) : Bool := chcLow t && t % 32 == 15

/-- A CLK period in the chain sequencer: the time in the phase, and in the shift CHC and the sample of CHD (R124). -/
def chainPeriod (s : State) : State :=
  match runningCycle s with
  | none => s
  | some c =>
    let shifting := c.phase = .shift
    let bits := if shifting ∧ risingEdge c.time then (c.bits <<< 1) ||| (if s.env.pins.chdLow then 0 else 1) else c.bits
    { s with id := { s.id with
      cycle := some { c with time := c.time + 1, bits := bits }
      chc := !(decide shifting && chcLow c.time) } }

/-- The stretch of nHRST counts CLK periods (R180). -/
def stretchPeriod (s : State) : State :=
  if s.sup.phase = .stretch then { s with sup := { s.sup with stretchClks := s.sup.stretchClks + 1 } } else s

/-- A CLK period in the main domain's own counters, which run only while MAIN-ON: halt detector, oscillator check, stretch
and chain (R153, R155, R180). -/
def mainPeriod (s : State) : State :=
  if s.sup.power = .mainOn then chainPeriod (stretchPeriod (detectPeriod s)) else s

/-- An oscillator cycle: the prescaler counts in every power state but DEAD, the scan timer while scanning runs (R23,
R139). -/
def oscillatorPeriod (s : State) : State :=
  let s := if s.sup.power = .dead then s else { s with tk := { s.tk with prescaler := s.tk.prescaler + 1 } }
  if scanRuns s then scanTimerCycle s else s

/-- One CLK period passes: no step is taken, and the counters count (log entry 10). -/
def clkPeriod (s : State) : State :=
  let s := mainPeriod (samplePins s)
  if s.env.pins.oscCycle then oscillatorPeriod s else s

end Sys2Proof.Machine
end

