-- ==== Sys2Proof/Safety.lean ====
section
/-!
DEFINITION. Safety.lean: the terms in which claims about the machine are made. When a command takes effect, what the end of
a step does, which parts of the state a step may change, how a mailbox command completes, which argument byte is reported,
and the properties that every step keeps.
-/

namespace Sys2Proof.Machine

/-! ### When a command takes effect -/

/-- The main domain runs: MAIN-ON, not held in reset, and no supervisory event of its own waits to be taken first (R5,
R179; log entry 9). -/
def Runs (s : State) : Prop :=
  s.sup.power = .mainOn ∧ s.sup.phase ≠ .held ∧ s.sup.request = none ∧ s.sup.cutShort = false

/-- The host port is open: the main domain runs and nHRST is released (R1, R180). -/
def PortOpen (s : State) : Prop := Runs s ∧ s.sup.phase = .run

/-- The host port is closed while the main domain runs: the stretch of nHRST (R180). -/
def PortClosed (s : State) : Prop := Runs s ∧ s.sup.phase = .stretch

/-- The mailbox command of `code` has been started and its step can be taken (R10). -/
def Started (code : Byte) (s : State) : Prop := Runs s ∧ s.mb.state = .busy ∧ s.mb.running = some code

/-- The oscillator is not known to be stopped (R153). -/
def NotHalted (s : State) : Prop := s.sup.detector ≠ .halted

/-! ### The end of a step (R4, R91, R102, R175) -/

/-- The input levels that a step starting now finds (log entry 4). -/
def seenPins (s : State) : Pins := s.env.feed.headD s.env.pins

/-- A battery sample of a step starting now finds the battery low: VBAT below its level, or absent (R167). -/
def batterySeenLow (s : State) : Bool := (seenPins s).vbatLow || !(seenPins s).vbatPresent

/-- The latch word `w` with the POWER-LOW latch (bit 12) set if VDD has fallen below the warning level since the previous
sample (R175). -/
def withPowerLow (s : State) (w : Half) : Half :=
  if (seenPins s).vddLow ∧ s.sup.pwrLow = false then w ||| 0x1000#16 else w

/-- The step from `s` to `t` took its inputs from the pins. -/
def ReadsPins (s t : State) : Prop := t.env = { pins := seenPins s, feed := s.env.feed.tail }

/-- The step from `s` to `t` ended as every step of the running main domain does: its own work left the latch word
`latches`, then the power monitor and the chain lines were sampled, and nINT set from what was left (R4, R91, R102, R175). -/
def EndsStep (s t : State) (latches : Half) : Prop :=
  ReadsPins s t ∧ t.lv.latches = withPowerLow s latches ∧ t.sup.pwrLow = (seenPins s).vddLow ∧
  t.lv.atnA = (seenPins s).atnA ∧ t.lv.atnB = (seenPins s).atnB ∧ t.lv.nint = interruptLine t

/-! ### Frames -/

/-- The parts of the state that steps change, apart from the inputs and what the end of a step sets. -/
inductive Part where
  | writeLatch | readLatch | dataBus | mailbox | config
  | positions | raw | lastBlocked | scanTimer | scanRun
  | classes | entries | modKeys | locks | held | compose | lastChord | lamps
  | records | lost | headLatch | repetition
  | latches | routes | enables | soft | switch | stack
  | identify | fault
  | calendar | counters | adjust | alarm | setFlags | wake
  | memory | watchdog
  | power | request | stretch | batLow | defaults | coldMarker | halt | cut | starts
  deriving DecidableEq, Repr

/-- A part is the same in two states. -/
def Part.same : Part → State → State → Prop
  | .writeLatch, s, t => t.port.writeLatch = s.port.writeLatch
  | .readLatch, s, t => t.port.readLatch = s.port.readLatch
  | .dataBus, s, t => t.port.dataBus = s.port.dataBus
  | .mailbox, s, t => t.mb = s.mb
  | .config, s, t => t.cfg = s.cfg
  | .positions, s, t => t.scan.positions = s.scan.positions
  | .raw, s, t => t.scan.raw = s.scan.raw
  | .lastBlocked, s, t => t.scan.lastBlocked = s.scan.lastBlocked
  | .scanTimer, s, t =>
    t.scan.timer = s.scan.timer ∧ t.scan.interval = s.scan.interval ∧ t.scan.ready = s.scan.ready
  | .scanRun, s, t => t.scan.run = s.scan.run
  | .classes, s, t => t.tr.classes = s.tr.classes
  | .entries, s, t => t.tr.entries = s.tr.entries
  | .modKeys, s, t => t.tr.modKeys = s.tr.modKeys
  | .locks, s, t => t.tr.locks = s.tr.locks
  | .held, s, t => t.tr.held = s.tr.held
  | .compose, s, t => t.tr.acc = s.tr.acc ∧ t.tr.digits = s.tr.digits
  | .lastChord, s, t => t.tr.lastChord = s.tr.lastChord
  | .lamps, s, t => t.tr.lampsReg = s.tr.lampsReg
  | .records, s, t => t.tq.records = s.tq.records
  | .lost, s, t => t.tq.lost = s.tq.lost
  | .headLatch, s, t => t.tq.headLatch = s.tq.headLatch
  | .repetition, s, t => t.rep = s.rep
  | .latches, s, t => t.lv.latches = s.lv.latches
  | .routes, s, t => t.lv.routes = s.lv.routes
  | .enables, s, t => t.lv.enables = s.lv.enables
  | .soft, s, t => t.lv.soft = s.lv.soft
  | .switch, s, t => t.lv.switch = s.lv.switch
  | .stack, s, t => t.lv.stack = s.lv.stack
  | .identify, s, t => t.id = s.id
  | .fault, s, t => t.fault = s.fault
  | .calendar, s, t => t.tk.cal = s.tk.cal
  | .counters, s, t =>
    t.tk.sub = s.tk.sub ∧ t.tk.prescaler = s.tk.prescaler ∧ t.tk.interval = s.tk.interval ∧
    t.tk.adjSecond = s.tk.adjSecond
  | .adjust, s, t => t.tk.adjust = s.tk.adjust
  | .alarm, s, t => t.tk.alarm = s.tk.alarm
  | .setFlags, s, t => t.tk.timeSet = s.tk.timeSet ∧ t.tk.dateSet = s.tk.dateSet
  | .wake, s, t => t.tk.wake = s.tk.wake
  | .memory, s, t => t.mem = s.mem
  | .watchdog, s, t => t.wd = s.wd
  | .power, s, t =>
    t.sup.power = s.sup.power ∧ t.sup.phase = s.sup.phase ∧ t.sup.reason = s.sup.reason ∧ t.sup.vddLost = s.sup.vddLost
  | .request, s, t => t.sup.request = s.sup.request
  | .stretch, s, t => t.sup.stretchTicks = s.sup.stretchTicks ∧ t.sup.stretchClks = s.sup.stretchClks
  | .batLow, s, t => t.sup.batLow = s.sup.batLow
  | .defaults, s, t => t.sup.defaults = s.sup.defaults
  | .coldMarker, s, t => t.sup.coldMarker = s.sup.coldMarker
  | .halt, s, t =>
    t.sup.detector = s.sup.detector ∧ t.sup.oscSeen = s.sup.oscSeen ∧ t.sup.oscHalt = s.sup.oscHalt ∧
    t.sup.haltReady = s.sup.haltReady
  | .cut, s, t => t.sup.cutShort = s.sup.cutShort
  | .starts, s, t => t.starts = s.starts

/-- From `s` to `t` no part changes but those listed, and the queue of waiting commands stays. -/
def ChangesOnly (parts : List Part) (s t : State) : Prop :=
  t.pending = s.pending ∧ ∀ p : Part, p ∉ parts → p.same s t

/-- A whole step of the running main domain: it leaves the latch word `latches` and otherwise changes only `parts`. -/
def MainStep (latches : Half) (parts : List Part) (s t : State) : Prop :=
  EndsStep s t latches ∧ ChangesOnly (.latches :: parts) s t

/-- A step that sets and clears no latch of its own. -/
def QuietStep (parts : List Part) (s t : State) : Prop := MainStep s.lv.latches parts s t

/-! ### The register window (section 1.2.2) -/

/-- The registers whose read has no side effect and no other form of statement, with the values they read as (R8, R9, R38,
R46, R72, R78, R100, R107, R113, R128; the holding latch and head latch bytes of R3 and R77 among them). -/
def plainRegisters (s : State) : List (Addr × Byte) :=
  [(0x00#6, 0x47), (0x01#6, 0x01), (0x03#6, s.tr.lampsReg.setWidth 8),
   (0x05#6, (match s.mb.state with | .idle => 0x00 | .busy => 0x10 | .done => 0x20) ||| resultCode s.mb.result),
   (0x18#6, byteOf s.tq.records.length),
   (0x1B#6, match s.tq.headLatch with | none => 0 | some r => r.token.extractLsb' 8 8),
   (0x1C#6, match s.tq.headLatch with
     | none => 0
     | some r => (match r.mods with
         | none => 0
         | some m => (if m.num then 0x80 else 0) + (if m.caps then 0x40 else 0) + (if m.alt then 0x20 else 0) +
             (if m.ctrl then 0x10 else 0) + (if m.shift then 0x08 else 0)) +
       (match r.source with | .key => 1 | .repeated => 2 | .compose => 3 | .host => 4 | .marker => 5)),
   (0x1D#6, match s.tq.headLatch with
     | some { position := some q, .. } => byteOf q.val
     | _ => 0xFF),
   (0x1F#6, if s.scan.run then 1 else 0), (0x20#6, if s.lv.switch then 1 else 0),
   (0x23#6, match s.lv.stack with | [] => 0xFF | top :: _ => byteOf top.val), (0x24#6, byteOf s.lv.stack.length),
   (0x2B#6, s.port.readLatch), (0x31#6, s.port.readLatch), (0x33#6, s.port.readLatch),
   (0x37#6, match s.id.state with | .idle => 0 | .run => 1 | .done => 2),
   (0x38#6, s.id.source), (0x39#6, s.id.code), (0x3A#6, causeCode s.fault.cause), (0x3B#6, originCode s.fault.origin),
   (0x3C#6, s.fault.detailA), (0x3D#6, byteOf s.fault.lost)]

/-- The addresses that hold no register a host can read: write-only registers and unused addresses (R1). -/
def unreadableAddresses : List Addr :=
  [0x04#6, 0x06#6, 0x07#6, 0x1E#6, 0x22#6, 0x25#6, 0x26#6, 0x27#6, 0x28#6, 0x29#6, 0x2C#6, 0x2D#6, 0x2E#6, 0x2F#6, 0x34#6,
   0x35#6, 0x36#6, 0x3F#6]

/-! ### The mailbox and fault capture -/

/-- A command has completed with the result code `r` and the result bytes `out` in a step that otherwise changes only
`parts` (R13): DONE, COMMAND-DONE latched (bit 11). -/
def Completes (r : ResultCode) (out : Row) (parts : List Part) (s t : State) : Prop :=
  t.mb = { state := .done, result := r, args := s.mb.args, work := s.mb.work, res := out, running := none } ∧
  MainStep (s.lv.latches ||| 0x0800#16) (.mailbox :: parts) s t

/-- The fault record after the single fault `f` (R130, R131): captured into an unlocked record, otherwise only counted. -/
def recordAfter (f : FaultReport) (r : FaultRecord) : FaultRecord :=
  if r.locked then { r with lost := min 15 (r.lost + 1) }
  else
    { cause := some f.cause, origin := some f.origin, detailA := f.detailA, detailB := f.detailB, lost := 0,
      locked := true }

/-- A command has completed with BAD-ARGUMENT for the argument byte `i` (R12): no result bytes, a BAD-ARGUMENT fault with the
code and the index, and nothing else. -/
def Rejects (code : Byte) (i : Nat) (s t : State) : Prop :=
  t.fault = recordAfter ⟨.badArgument, .mailbox, code, byteOf i⟩ s.fault ∧ Completes .badArgument Row.zero [.fault] s t

/-- The result row that starts with one byte and holds 0x00 after it. -/
def oneByte (b : Byte) : Row := #v[b, 0, 0, 0, 0, 0, 0, 0]

/-- The result row that starts with two bytes and holds 0x00 after them. -/
def twoBytes (a b : Byte) : Row := #v[a, b, 0, 0, 0, 0, 0, 0]

/-- Working-copy byte `i` as a number. -/
def argNat (s : State) (i : Nat) : Nat := (s.mb.work.getD i 0).toNat

/-- The index of the first byte of the working copy that the argument checks of a command find out of range, as its owning
chapter gives them (R12, R18, R19, R63 to R67, R68, R95, R96, R142, R143, R146, R152, R163, R164, R171). -/
def badIndex (s : State) : Instr → Option Nat
  | .setConfig =>
    if argNat s 0 < 1 ∨ 12 < argNat s 0 then some 0
    else if fieldInRange (argNat s 0) (s.mb.work.getD 1 0) then none else some 1
  | .readConfig => if argNat s 0 < 1 ∨ 12 < argNat s 0 then some 0 else none
  | .loadEntry | .readEntry => if 127 < argNat s 0 then some 0 else if 4 < argNat s 1 then some 1 else none
  | .setClass =>
    if 127 < argNat s 0 then some 0
    else if 13 < argNat s 1 then some 1
    else if argNat s 2 = 255 ∨ (argNat s 1 = 2 ∧ argNat s 2 ≤ 9) then none
    else some 2
  | .readClass => if 127 < argNat s 0 then some 0 else none
  | .setChord =>
    if 3 < argNat s 0 then some 0
    else if 7 < argNat s 1 then some 1
    else if 127 < argNat s 2 then some 2
    else if 3 < argNat s 3 then some 3
    else if 1 < argNat s 4 then some 4
    else none
  | .readChord => if 3 < argNat s 0 then some 0 else none
  | .setLocks => if 15 < argNat s 0 then some 0 else if 15 < argNat s 1 then some 1 else none
  | .setRoute => if 12 < argNat s 0 then some 0 else if 15 < argNat s 1 then some 1 else none
  | .readRoute => if 12 < argNat s 0 then some 0 else none
  | .setTime _ =>
    if 23 < argNat s 0 then some 0 else if 59 < argNat s 1 then some 1 else if 59 < argNat s 2 then some 2 else none
  | .setDate _ =>
    if 99 < argNat s 0 then some 0
    else if argNat s 1 < 1 ∨ 12 < argNat s 1 then some 1
    else if argNat s 2 < 1 ∨ monthLength (argNat s 0) (argNat s 1) < argNat s 2 then some 2
    else if 6 < argNat s 3 then some 3
    else none
  | .setAlarm _ =>
    if 23 < argNat s 0 ∧ argNat s 0 ≠ 255 then some 0
    else if 59 < argNat s 1 ∧ argNat s 1 ≠ 255 then some 1
    else if 59 < argNat s 2 ∧ argNat s 2 ≠ 255 then some 2
    else if 1 < argNat s 3 then some 3
    else none
  | .setAdjust _ => if 0x40 ≤ argNat s 0 ∧ argNat s 0 ≤ 0xBF then some 0 else none
  | .backupRead =>
    if 63 < argNat s 0 then some 0
    else if argNat s 1 < 1 ∨ 8 < argNat s 1 then some 1
    else if 64 < argNat s 0 + argNat s 1 then some 1
    else none
  | .backupWrite _ =>
    if 33 < argNat s 0 then some 0
    else if argNat s 1 < 1 ∨ 6 < argNat s 1 then some 1
    else if 34 < argNat s 0 + argNat s 1 then some 1
    else none
  | .watchdogSet => if 3 < argNat s 0 then some 0 else if 1 < argNat s 1 then some 1 else none
  | .registerWrite _ _ | .lowByteWrite _ _ | .lowByteRead _ | .lampsWrite _ | .mbcmdWrite _ | .badCommand | .echo
  | .resetDevice | .restoreLayout | .readKeystate | .endHold | .insert | .flush | .readTime | .clearAlarm _ | .readAlarm
  | .readResetRecord | .clearResetRecord _ | .saveConfig _ | .loadConfig | .tqlostRead | .headSnapshot | .tqtake _
  | .scancStop | .scancRun | .lvctlWrite _ | .accept | .release _ | .lvens _ | .lvenc _ | .lvrqs _ | .lvrqc _ | .srccl _
  | .idstart _ | .fldbRead | .wdkick _ | .selectionStep | .presence | .presenceReleased | .answerWindowTimeout
  | .presenceStuckTimeout | .identityShiftEnd _ | .chainCycleCompletion | .timebaseTick | .repeatExpiry | .firstExpiry
  | .secondExpiry | .scanPass _ | .haltDetection | .oscillatorResume | .nreset | .brownOutEntry | .returnToMainOn
  | .vddLoss | .vddBelowBrownOutLevel | .vbatLoss | .vbatPresent | .fullResetSequence _ | .hostSideReset _
  | .nhrstRelease | .softFullReset => none

/-- The code of section 1.6 that starts a mailbox command, with the command uncut. -/
def CommandCode (code : Byte) (c : Instr) : Prop := (code, c) ∈ commandTable

/-! ### Identify (R115 to R117) -/

/-- The source `n` is a candidate at the level `l`: it is active, and routed there; behind level 15 stand WATCHDOG and FAULT
(R115). -/
def Behind (s : State) (l : Level) (n : Nat) : Prop :=
  sourceActive s n = true ∧ (if l.val = 15 then n = 13 ∨ n = 14 else n ≤ 12 ∧ (s.lv.routes.getD n 15).toNat = l.val)

/-- The source `n` is the candidate with the lowest number (R115). -/
def Selected (s : State) (l : Level) (n : Nat) : Prop := n ≤ 14 ∧ Behind s l n ∧ ∀ m, m < n → ¬ Behind s l m

/-- A selection step is ready for the level `l` (R114). -/
def SelectionWaits (s : State) (l : Level) : Prop :=
  Runs s ∧ s.id.state = .run ∧ s.id.cycle = none ∧ s.id.level = some l

/-- The identify code of an internal source (R117). -/
def codeOf (s : State) : Nat → Byte
  | 0 => byteOf s.tq.records.length
  | 1 => byteOf s.tq.records.length
  | 2 => s.tq.lost
  | 3 => s.tr.lastChord
  | 4 => if s.tr.held then 1 else 0
  | 5 => s.scan.lastBlocked
  | 6 => if s.tk.wake then 1 else 0
  | 7 => byteOf s.tk.sub
  | 8 => byteOf s.tk.cal.weekday
  | 11 => resultCode s.mb.result
  | 12 => if s.sup.pwrLow then 1 else 0
  | 13 => if s.wd.state = .warned then 1 else 0
  | 14 => causeCode s.fault.cause
  | _ => 0

/-- The class of a chain cycle as source number and as detail A (R121). -/
def chainCodes : ChainClass → Byte × Byte
  | .a => (9, 0)
  | .b => (10, 1)

/-- A chain cycle runs in the phase `phase` (R121). -/
def CycleIn (s : State) (c : ChainCycle) (phase : ChainPhase) : Prop :=
  Runs s ∧ s.id.state = .run ∧ s.id.cycle = some c ∧ c.phase = phase

/-! ### Steps that are ready inside this LSI (R5; log entry 9) -/

/-- Every step that is ready inside this LSI, of whatever kind. -/
def readySteps (s : State) : List Instr :=
  (readySupervisory s).toList ++
  (if oscillatorRuns s && decide (s.tk.interval ≤ s.tk.prescaler) then [.timebaseTick] else []) ++
  (if scanRuns s && s.scan.ready then [.scanPass (seenPins s).matrix] else []) ++
  (if selectionReady s then [.selectionStep] else []) ++ (readyChain s).toList ++ (readyCommand s).toList

/-- The command is a step of the main domain, which a reset discards (R7). -/
def MainDomainStep (c : Instr) : Prop :=
  kindOf c = .hostAccess ∨ kindOf c = .scanPass ∨ kindOf c = .identify ∨ kindOf c = .command

/-- The command begins a reset of the main domain (R174, R176, R178, R181): a full one, by a fall of VDD, a return to
MAIN-ON, nRESET outside a reset in progress or the request of RESET-DEVICE, or a host-side one that is requested. -/
def Begins (s : State) (full : Bool) (c : Instr) : Prop :=
  if full then
    (c = .nreset ∧ s.sup.power = .mainOn ∧ s.sup.phase ≠ .held) ∨
    (c = .softFullReset ∧ s.sup.power = .mainOn ∧ s.sup.request = some .soft ∧ s.sup.cutShort = false) ∨
    (c = .brownOutEntry ∧ s.sup.power = .mainOn) ∨
    (c = .returnToMainOn ∧ (s.sup.power = .brownOut ∨ s.sup.power = .batteryOnly))
  else
    (∃ cut, c = .hostSideReset cut) ∧ s.sup.power = .mainOn ∧ s.sup.phase ≠ .held ∧ s.sup.cutShort = false ∧
      (s.sup.request = some .watchdog ∨ s.sup.request = some .chord)

/-- The command is the step that ends part 1 of the full reset in progress (R177). -/
def EndsPartOne (s : State) (c : Instr) : Prop :=
  (∃ cut, c = .fullResetSequence cut) ∧ (s.sup.power = .brownOut ∨ s.sup.phase = .held)

/-- The command is a write of 0x00 to SCANC, in the row's own form or by its address (R37; log entry 6). -/
def WritesStop (c : Instr) : Prop := c = .scancStop ∨ c = .registerWrite 0x1F#6 0 ∨ c = .lowByteWrite 0x1F#6 0

/-- A scan pass cannot become ready behind these waiting commands (R23, R37, R39): a write of 0x00 to SCANC is among them, or a
halt detection and no oscillator cycle. -/
def PassesEnded (waiting : List Instr) : Prop :=
  (∃ d ∈ waiting, WritesStop d) ∨ (.haltDetection ∈ waiting ∧ .oscillatorResume ∉ waiting)

/-- The waiting commands discard `c` when it arrives (R7, R23, R37): a reset that waits, the end of part 1, or the end of scan
passes. -/
def DiscardedOnArrival (s : State) (c : Instr) : Prop :=
  (MainDomainStep c ∧ ∃ d ∈ s.pending, EndsPartOne s d ∨ ∃ full, Begins s full d) ∨
  (c = .haltDetection ∧ ∃ d ∈ s.pending, Begins s true d) ∨ (kindOf c = .scanPass ∧ PassesEnded s.pending)

/-- The waiting commands stand in the order of precedence (R5). -/
def QueueOrdered (q : List Instr) : Prop :=
  q.Pairwise (fun c d => precedence (kindOf c) ≤ precedence (kindOf d))

/-! ### One CLK period (log entry 10) -/

/-- CHC is low in the CLK period `n` of the shift phase: nine pulses follow two CHC periods of 32 CLK periods, each low for
its first 16 (R123, R124). -/
def PulseLow (n : Nat) : Prop := ∃ k, k < 9 ∧ 64 + 32 * k ≤ n ∧ n < 80 + 32 * k

/-- The CLK period `n` of the shift phase ends at a rising edge of CHC, where CHD is sampled (R124). -/
def SampleAt (n : Nat) : Prop := ∃ k, k < 9 ∧ n = 79 + 32 * k

/-- The CLK period that starts in `s` brings the halt detector to HALTED (R153): MAIN-ON, WATCHING, no oscillator cycle, and
the count reaches 8192. -/
def HaltsNow (s : State) : Prop :=
  s.sup.power = .mainOn ∧ (seenPins s).oscCycle = false ∧ ∃ n, s.sup.detector = .watching n ∧ 8192 ≤ n + 1

/-- From `s` to `t` one CLK period has passed and no step was taken. The prescaler counts an oscillator cycle in every power
state but DEAD (R139), the scan timer while scanning runs, and at its period a pass is ready and the timer restarts (R23,
R24). While MAIN-ON the halt detector counts the CLK periods since the last oscillator cycle and at 8192 enters HALTED, which
makes a halt detection ready, or in part 1 of a full reset is the finding of the oscillator check, and leaves no scan pass
ready (R23, R153, R155; log entry 28); the oscillator check sees a cycle, and the stretch of nHRST counts (R155, R180). A
chain cycle counts the time of its phase, and its shift moves CHC and samples CHD (R124). Nothing else changes. -/
def ClkPasses (s t : State) : Prop :=
  let cycle := (seenPins s).oscCycle
  ReadsPins s t ∧ ChangesOnly [.counters, .scanTimer, .identify, .halt, .stretch] s t ∧
  t.lv = s.lv ∧ t.sup.pwrLow = s.sup.pwrLow ∧
  t.tk = { s.tk with
    prescaler := if cycle = true ∧ s.sup.power ≠ .dead then s.tk.prescaler + 1 else s.tk.prescaler } ∧
  (cycle = true → PortOpen s → s.scan.run = true →
    t.scan = if s.scan.timer + 1 < s.scan.interval then { s.scan with timer := s.scan.timer + 1 }
      else { s.scan with timer := 0, ready := true,
                         interval := match s.cfg.scanPeriod.toNat with | 0 => 128 | 1 => 256 | _ => 512 }) ∧
  (cycle = false ∨ ¬ PortOpen s ∨ s.scan.run = false → ¬ HaltsNow s → t.scan = s.scan) ∧
  (s.sup.power = .mainOn →
    t.sup.detector = (match s.sup.detector with
      | .watching n => if cycle then .watching 0 else if n + 1 < 8192 then .watching (n + 1) else .halted
      | .halted => if cycle then .watching 0 else .halted) ∧
    t.sup.oscSeen = (s.sup.oscSeen || cycle) ∧
    t.sup.stretchClks = if s.sup.phase = .stretch then s.sup.stretchClks + 1 else s.sup.stretchClks) ∧
  (s.sup.power ≠ .mainOn → t.sup = s.sup) ∧
  (HaltsNow s → t.scan = { s.scan with ready := false } ∧
    if s.sup.phase = .held then
      t.sup.oscHalt = some (byteOf s.tk.cal.second, byteOf s.tk.sub) ∧ t.sup.haltReady = s.sup.haltReady
    else t.sup.oscHalt = s.sup.oscHalt ∧ t.sup.haltReady = true) ∧
  (¬ HaltsNow s → t.sup.oscHalt = s.sup.oscHalt ∧ t.sup.haltReady = s.sup.haltReady) ∧
  t.sup.stretchTicks = s.sup.stretchTicks ∧
  (∀ c, CycleIn s c c.phase → ∃ bits,
    t.id = { s.id with cycle := some { c with time := c.time + 1, bits := bits }, chc := t.id.chc } ∧
    (t.id.chc = false ↔ c.phase = .shift ∧ PulseLow c.time) ∧
    (c.phase = .shift ∧ SampleAt c.time →
      bits = (c.bits <<< 1) ||| (if (seenPins s).chdLow then 0#9 else 1#9)) ∧
    (¬ (c.phase = .shift ∧ SampleAt c.time) → bits = c.bits)) ∧
  ((∀ c, ¬ CycleIn s c c.phase) → t.id = s.id)

/-! ### Resets (R20, R40, R71, R89, R112, R127, R173, R177) -/

/-- Every block of the main domain has the values that its chapter states for a reset, the latches and the fault record
apart. -/
def BlocksReset (t : State) : Prop :=
  t.mb = { state := .idle, result := .ok, args := Row.zero, work := Row.zero, res := Row.zero, running := none } ∧
  t.port.writeLatch = 0 ∧ t.port.readLatch = 0 ∧
  t.scan.positions = [] ∧ t.scan.raw = 0 ∧ t.scan.lastBlocked = 0xFF ∧ t.scan.timer = 0 ∧ t.scan.ready = false ∧
  t.scan.run = true ∧
  t.tr.modKeys = [] ∧ t.tr.locks = { caps := false, num := false, scroll := false, insert := false } ∧
  t.tr.held = false ∧ t.tr.acc = 0 ∧ t.tr.digits = 0 ∧ t.tr.lastChord = 0xFF ∧ t.tr.lampsReg = 0 ∧
  t.tq = { records := [], lost := 0, headLatch := none } ∧ t.rep = .idle ∧
  t.lv.routes = Vector.replicate 13 15 ∧ t.lv.enables = 0x8000 ∧ t.lv.soft = 0 ∧ t.lv.switch = false ∧ t.lv.stack = [] ∧
  t.id.state = .idle ∧ t.id.level = none ∧ t.id.source = 0x1F ∧ t.id.code = 0xFF ∧ t.id.cycle = none ∧
  t.id.idg = false ∧ t.id.chs = false ∧ t.id.chc = true ∧
  t.wd = { state := .disabled, count := 0, active := 0, pending := 0 }

/-- The parts that part 1 of a full reset may change: all of the main domain but the class table, the translation memory,
the configuration, DEFAULTS and BATLOW. -/
def partOneParts : List Part :=
  [.writeLatch, .readLatch, .mailbox, .positions, .raw, .lastBlocked, .scanTimer, .scanRun, .modKeys, .locks, .held,
   .compose, .lastChord, .lamps, .records, .lost, .headLatch, .repetition, .latches, .routes, .enables, .soft, .switch,
   .stack, .identify, .fault, .watchdog, .power, .request, .stretch, .halt, .cut]

/-- Part 1 of a full reset with the reason `r` (R177). -/
def PartOne (r : ResetReason) (s t : State) : Prop :=
  BlocksReset t ∧ t.lv.latches = 0 ∧ t.lv.nint = false ∧
  t.fault = { cause := none, origin := none, detailA := 0, detailB := 0, lost := 0, locked := false } ∧
  t.sup.power = .mainOn ∧ t.sup.phase = .held ∧ t.sup.reason = some r ∧ t.sup.request = none ∧
  t.sup.detector = .watching 0 ∧ t.sup.haltReady = false ∧ t.sup.oscSeen = false ∧ t.sup.oscHalt = none ∧
  t.sup.cutShort = false ∧
  t.sup.pwrLow = (seenPins s).vddLow ∧ ReadsPins s t ∧ ChangesOnly partOneParts s t

/-- The supervisory step of a full reset is ready (R155, R176, R177): every reset cause has ended, and the oscillator check
has seen a cycle or found a halt. -/
def SequenceWaits (r : ResetReason) (s : State) : Prop :=
  s.sup.power = .mainOn ∧ s.sup.phase = .held ∧ s.sup.cutShort = false ∧ s.sup.reason = some r ∧
  (seenPins s).nresetLow = false ∧ (s.sup.oscSeen = true ∨ s.sup.oscHalt ≠ none)

/-- The stretch of nHRST has ended (R180): at once for PIN, at the second tick, or after 262,144 CLK periods. -/
def StretchOver (s : State) : Prop :=
  s.sup.reason = some .pin ∨ 2 ≤ s.sup.stretchTicks ∨ 262144 ≤ s.sup.stretchClks

/-- Validation finds the memory invalid (R160). -/
def Invalid (r : ResetReason) (s : State) : Prop :=
  r = .cold ∨ batterySeenLow s = true ∨ memSum s.mem 64 ≠ 0x5A

/-- The battery domain starts from DEAD (R157, R168): the values of R157, every byte of the memory a free value (log entry
3), the cold marker set. -/
def BatteryStarts (s t : State) : Prop :=
  t.tk.cal = { second := 0, minute := 0, hour := 0, day := 1, month := 1, year := 0, weekday := 0 } ∧
  t.tk.sub = 0 ∧ t.tk.prescaler = 0 ∧ t.tk.adjust = 0 ∧ t.tk.adjSecond = 0 ∧ t.tk.timeSet = false ∧
  t.tk.dateSet = false ∧ t.tk.wake = false ∧
  t.tk.alarm = { hour := none, minute := none, second := none, oneShot := false, armed := false } ∧
  (∀ a, a < 64 → memByte t.mem a = Config.lostByte s.starts a) ∧ t.starts = s.starts + 1 ∧ t.sup.coldMarker = true

/-- The bytes of the reset record after an update with the reason `r`, from a memory that holds the bytes `old` (R162). -/
def RecordUpdated (r : ResetReason) (old : Nat → Byte) (t : State) : Prop :=
  memByte t.mem 58 = reasonCode r ∧ memByte t.mem 59 = old 58 ∧
  memByte t.mem 60 = (if r = .watchdog ∧ old 60 ≠ 255 then old 60 + 1 else old 60) ∧
  memByte t.mem 61 = (if r = .brownOut ∧ old 61 ≠ 255 then old 61 + 1 else old 61) ∧
  memByte t.mem 62 = (if r = .chord ∧ old 62 ≠ 255 then old 62 + 1 else old 62) ∧
  memConsistent t.mem = true

/-! ### Scanning -/

/-- A scan pass can be taken: the port is open, scanning runs and the oscillator is not known to be stopped (R23, R39,
R40). -/
def PassReady (s : State) : Prop := PortOpen s ∧ s.scan.run = true ∧ NotHalted s

/-- The position is seen down in the pass that reads `seen` (R21, R22): its sample, on an examined drive line. -/
def SeenDown (s : State) (seen : BitVec 128) (p : Position) : Prop :=
  seen.getLsbD p.val = true ∧ p.val / 8 < s.cfg.driveCount.toNat

/-- The position is ambiguous in the pass (R29): three other corners of a rectangle are seen down. -/
def Ambiguous (s : State) (seen : BitVec 128) (p : Position) : Prop :=
  ∃ q r c : Position, SeenDown s seen q ∧ SeenDown s seen r ∧ SeenDown s seen c ∧
    q.val / 8 = p.val / 8 ∧ q.val % 8 ≠ p.val % 8 ∧ r.val / 8 ≠ p.val / 8 ∧ r.val % 8 = p.val % 8 ∧
    c.val / 8 = r.val / 8 ∧ c.val % 8 = q.val % 8

/-- The positions whose release event a pass from `s` to `t` delivers, in ascending order: those it ceases to track (R25,
R26, R33). -/
def releasesIn (s t : State) : List Position :=
  (List.finRange 128).filter
    (fun p => isTracked (posOf s.scan.positions p) && !isTracked (posOf t.scan.positions p))

/-- The positions whose press event a pass from `s` to `t` delivers, in ascending order: those it begins to track (R25,
R28). -/
def pressesIn (s t : State) : List Position :=
  (List.finRange 128).filter (fun p => !isTracked (posOf s.scan.positions p) && posOf t.scan.positions p == .down)

/-- The positions that enter a blocked state in a pass from `s` to `t`, from UP or PRESSING, in ascending order (R32). -/
def blockedIn (s t : State) : List Position :=
  (List.finRange 128).filter (fun p =>
    (match posOf s.scan.positions p with | .up | .pressing _ => true | _ => false) &&
    (posOf t.scan.positions p == .blockedGhost || posOf t.scan.positions p == .blockedRollover))

/-- The state in which the delivery of a pass from `s` to `t` starts: the scanner's own state is final, the raw image
included, and the MATRIX latch (bit 5) is set if a position entered blocking (R25, R32, R34). -/
def beforeDelivery (s t : State) : State :=
  { s with
    env := { pins := seenPins s, feed := s.env.feed.tail }
    scan := { s.scan with
      positions := t.scan.positions, raw := t.scan.raw, lastBlocked := t.scan.lastBlocked }
    lv := { s.lv with latches := if blockedIn s t = [] then s.lv.latches else s.lv.latches ||| 0x0020#16 } }

/-- What translation makes of the events of a pass, each processed to its end before the next: the releases, then the
presses, in the order given, with the faults that the presses report (R34). -/
def delivered (u : State) (releases presses : List Position) : State × List FaultReport :=
  presses.foldl (fun r p => ((pressEvent p r.1).1, r.2 ++ (pressEvent p r.1).2))
    (releases.foldl (fun v p => releaseEvent p v) u, [])

/-- The tracked keys that the press stage of a pass from `s` to `t` counts at the place of `p` in the ascending order: those
left by the release stage and those that qualified at lower positions (R28). -/
def trackedBefore (s t : State) (p : Position) : Nat :=
  (List.finRange 128).countP (fun q =>
    isTracked (posOf t.scan.positions q) && (isTracked (posOf s.scan.positions q) || decide (q < p)))

/-- A class whose presses can produce a token (R41). -/
def Translating (c : KeyClass) : Prop := c = .plain ∨ c = .letter ∨ c = .insert ∨ ∃ d, c = .keypad d

/-- A press is a compose digit (R56). -/
def IsComposeDigit (s : State) (c : KeyClass) : Prop :=
  s.cfg.compose = 1 ∧ altHeld s = true ∧ ctrlHeld s = false ∧ shiftHeld s = false ∧ ∃ d, c = .keypad (some d)

/-- The lock state after stage 3 of a press of the class (R50). -/
def locksAfter (c : KeyClass) (l : Locks) : Locks :=
  { caps := xor l.caps (decide (c = .caps))
    num := xor l.num (decide (c = .num))
    scroll := xor l.scroll (decide (c = .scroll))
    insert := xor l.insert (decide (c = .insert)) }

/-! ### The tick (R139 to R141) -/

/-- A timebase tick can occur: the battery domain is supplied and the oscillator is not known to be stopped (R139, R154). -/
def TickReady (s : State) : Prop :=
  s.sup.power ≠ .dead ∧ (s.sup.power = .mainOn → s.sup.detector ≠ .halted)

/-- The seconds of the day. -/
def secondsOfDay (c : Calendar) : Nat := c.hour * 3600 + c.minute * 60 + c.second

/-- The calendar one second later (R141): the time of day counts modulo 86400, and at midnight the date and the weekday
advance. -/
def OneSecondLater (a b : Calendar) : Prop :=
  secondsOfDay b = (secondsOfDay a + 1) % 86400 ∧ b.second < 60 ∧ b.minute < 60 ∧
  if secondsOfDay a + 1 < 86400 then
    b.day = a.day ∧ b.month = a.month ∧ b.year = a.year ∧ b.weekday = a.weekday
  else
    b.weekday = (a.weekday + 1) % 7 ∧
    if a.day < monthLength a.year a.month then b.day = a.day + 1 ∧ b.month = a.month ∧ b.year = a.year
    else b.day = 1 ∧
      if a.month < 12 then b.month = a.month + 1 ∧ b.year = a.year
      else b.month = 1 ∧ b.year = (a.year + 1) % 100

/-- The alarm fires in the tick from `s` to `t` (R148): at a second boundary, armed, every time field ANY or equal to the new
time. -/
def AlarmFires (s t : State) : Prop :=
  s.tk.sub = 63 ∧ s.tk.alarm.armed = true ∧
  (∀ h, s.tk.alarm.hour = some h → h = t.tk.cal.hour) ∧ (∀ m, s.tk.alarm.minute = some m → m = t.tk.cal.minute) ∧
  ∀ x, s.tk.alarm.second = some x → x = t.tk.cal.second

/-- The tick sets the TICK latch (R150). -/
def TickChosen (s t : State) : Prop :=
  (s.cfg.tickRate = 1 ∧ t.tk.sub = 0) ∨ (s.cfg.tickRate = 2 ∧ t.tk.sub % 16 = 0) ∨
  (s.cfg.tickRate = 3 ∧ t.tk.sub % 4 = 0) ∨ s.cfg.tickRate = 4

/-- The parts that a tick step of the running main domain may change. -/
def tickParts : List Part :=
  [.latches, .records, .lost, .repetition, .calendar, .counters, .alarm, .batLow, .watchdog, .request, .stretch]

/-! ### The backup memory -/

/-- From `s` to `t` no byte outside the listed addresses changed. -/
def OnlyWrites (addresses : List Nat) (s t : State) : Prop :=
  ∀ a, a ∉ addresses → memByte t.mem a = memByte s.mem a

/-! ### What every step keeps -/

/-- The service stack is strictly increasing from bottom to top (R103). -/
def StackOrdered (s : State) : Prop := s.lv.stack.Pairwise (· > ·)

/-- Only the ten latched sources have latches, and the enable of level 15 is set (R90, R98). -/
def LevelsLegal (s : State) : Prop := s.lv.latches &&& ~~~0x39FC#16 = 0 ∧ s.lv.enables.getLsbD 15 = true

/-- The queue holds at most 32 records (R72). -/
def QueueBounded (s : State) : Prop := s.tq.records.length ≤ 32

/-- A running code stands in the mailbox exactly while it is BUSY (R9, R20). -/
def MailboxLegal (s : State) : Prop := s.mb.state = .busy ↔ s.mb.running.isSome

/-- Every calendar field is in its range, the counters in theirs (R141, R139, R152). -/
def CalendarInRange (s : State) : Prop :=
  s.tk.cal.second < 60 ∧ s.tk.cal.minute < 60 ∧ s.tk.cal.hour < 24 ∧
  1 ≤ s.tk.cal.month ∧ s.tk.cal.month ≤ 12 ∧
  1 ≤ s.tk.cal.day ∧ s.tk.cal.day ≤ monthLength s.tk.cal.year s.tk.cal.month ∧
  s.tk.cal.year < 100 ∧ s.tk.cal.weekday < 7 ∧ s.tk.sub < 64 ∧ s.tk.adjSecond < 64

/-- Every configuration field is in the range of section 1.7 (R18, R161). -/
def ConfigInRange (s : State) : Prop := ∀ id, 1 ≤ id → id ≤ 12 → fieldInRange id (fieldGet s.cfg id) = true

/-- While the main domain runs, a set wake flag is accompanied by a set ALARM latch (R149). -/
def WakeLatched (s : State) : Prop := Runs s → s.tk.wake = true → s.lv.latches.getLsbD 6 = true

/-- nINT stands as the last step left it: asserted exactly while some level is eligible and the host port is not held (R102). -/
def InterruptFollows (s : State) : Prop := s.lv.nint = interruptLine s

/-- The memory and the tables are in their canonical form. -/
def TablesCanonical (s : State) : Prop :=
  Memory.wf s.mem = true ∧ Table.wf builtInPos 128 s.scan.positions = true ∧
  Table.wf builtInClass 128 s.tr.classes = true ∧ Table.wf builtInEntry 640 s.tr.entries = true

/-- At most eight positions are tracked (R28). -/
def RolloverBounded (s : State) : Prop := trackedCount s ≤ 8

/-- LOST is at most 15 (R128, R131). -/
def LostBounded (s : State) : Prop := s.fault.lost ≤ 15

/-- While a chain cycle runs the engine is in RUN, and while the engine is in RUN it has a requested level (R114, R121,
R126). -/
def CycleLegal (s : State) : Prop :=
  (s.id.cycle.isSome → s.id.state = .run) ∧ (s.id.state = .run → s.id.level.isSome)

/-- The adjust value is in its range, -64 to +63 (R152). -/
def AdjustInRange (s : State) : Prop := adjustGood s.tk.adjust = true

/-- The requests of this LSI itself have one of their three reasons (R181). -/
def RequestLegal (s : State) : Prop :=
  s.sup.request = none ∨ s.sup.request = some .soft ∨ s.sup.request = some .watchdog ∨ s.sup.request = some .chord

/-- The halt detector's count stays below 8192, where it enters HALTED (R153), and a halt detection is ready only while
MAIN-ON and outside part 1 of a full reset (R7, R155), but for a host-side reset sequence that was cut short. -/
def HaltLegal (s : State) : Prop :=
  (∀ n, s.sup.detector = .watching n → n < 8192) ∧
  (s.sup.haltReady = true → s.sup.power = .mainOn ∧ (s.sup.phase = .held → s.sup.cutShort = true))

/-- What every block keeps: the stack in order, the latches and enables legal, the queue and LOST within their bounds, the
mailbox and the engine legal, the calendar, the adjust value and the configuration in their ranges, the reset request one of
the three, and the halt detector legal. -/
def BlocksLegal (s : State) : Prop :=
  StackOrdered s ∧ LevelsLegal s ∧ QueueBounded s ∧ MailboxLegal s ∧ LostBounded s ∧ CycleLegal s ∧ CalendarInRange s ∧
  ConfigInRange s ∧ AdjustInRange s ∧ RequestLegal s ∧ HaltLegal s

/-- A step takes every state that has the property to a state that has it. -/
def KeptByEveryStep (P : State → Prop) : Prop := ∀ s t, P s → step s = .next t → P t

end Sys2Proof.Machine
end

