-- ==== Sys2Proof/WellFormed.lean ====
section
/-!
DEFINITION. WellFormed.lean: which commands are formed as their rows of the table say. `exec` has a meaning for the others
too: a host access at another address is that address's access (log entry 6), and a cut beyond a step's last change is a
cut after it.
-/

namespace Sys2Proof

/-- The addresses whose write has a row of its own; SCANC has rows for the bytes 0x00 and 0x01 only (R37, R38). -/
def writeHasRow (a : Addr) (d : Byte) : Bool :=
  [0x03#6, 0x04#6, 0x1E#6, 0x20#6, 0x22#6, 0x26#6, 0x27#6, 0x28#6, 0x29#6, 0x2C#6, 0x2D#6, 0x2E#6, 0x2F#6, 0x34#6, 0x35#6,
   0x36#6, 0x3F#6].contains a || (a == 0x1F#6 && (d == 0#8 || d == 1#8))

/-- The low-byte addresses of the write-only pairs LVENS, LVENC, LVRQS, LVRQC and SRCCL (R2). -/
def isWriteLow (a : Addr) : Bool := [0x26#6, 0x28#6, 0x2C#6, 0x2E#6, 0x34#6].contains a

/-- The addresses whose read has a row of its own: TQLOST, TQHT0, LVACC and FLDB (R1). -/
def readHasRow (a : Addr) : Bool := [0x19#6, 0x1A#6, 0x21#6, 0x3E#6].contains a

/-- A cut lies within the changes of its step, of which there are `n`. -/
def cutWithin (n : Nat) : Option Nat → Bool
  | none => true
  | some k => decide (k ≤ n)

/-- The command is formed as its row says. -/
def Instr.wellFormed : Instr → Bool
  | .registerWrite a d => !writeHasRow a d
  | .lowByteWrite a _ => isWriteLow a
  | .lowByteRead a => !readHasRow a
  | .setTime cut | .setDate cut | .setAlarm cut | .clearAlarm cut | .setAdjust cut => cutWithin 1 cut
  | .backupWrite cut => cutWithin 7 cut
  | .clearResetRecord cut => cutWithin 4 cut
  | .saveConfig cut => cutWithin 25 cut
  | .fullResetSequence cut => cutWithin 70 cut
  | .hostSideReset cut => cutWithin 4 cut
  | .lampsWrite _ | .mbcmdWrite _ | .badCommand | .echo | .resetDevice | .loadEntry | .readEntry | .setClass | .readClass
  | .restoreLayout | .setChord | .readChord | .setLocks | .readKeystate | .endHold | .insert | .flush | .setRoute
  | .readRoute | .readTime | .readAlarm | .backupRead | .readResetRecord | .setConfig | .readConfig | .loadConfig
  | .watchdogSet | .tqlostRead | .headSnapshot | .tqtake _ | .scancStop | .scancRun | .lvctlWrite _ | .accept
  | .release _ | .lvens _ | .lvenc _ | .lvrqs _ | .lvrqc _ | .srccl _ | .idstart _ | .fldbRead | .wdkick _
  | .selectionStep | .presence | .presenceReleased | .answerWindowTimeout | .presenceStuckTimeout
  | .identityShiftEnd _ | .chainCycleCompletion | .timebaseTick | .repeatExpiry | .firstExpiry | .secondExpiry
  | .scanPass _ | .haltDetection | .oscillatorResume | .nreset | .brownOutEntry | .returnToMainOn | .vddLoss
  | .vddBelowBrownOutLevel | .vbatLoss | .vbatPresent | .nhrstRelease | .softFullReset => true

end Sys2Proof
end

