-- ==== Sys2Proof/Certificates/Slice0/Obligations.lean ====
section
/-!
DEFINITION. Certificates/Slice0/Obligations.lean: the statements for the provers, block by block, in the terms of
Safety.lean. A statement about a command's result says that `exec` answers that next state; `MainStep`, `QuietStep` and
`Completes` carry its frame.
-/

open Sys2Proof Sys2Proof.Machine

/-! ### The queue of commands and the order of steps -/

/-- A step takes the command at the front of the queue and runs it with the queue's rest. -/
def Obligations.StepRunsTheFrontCommand : Prop :=
  ∀ (c : Instr) (rest : List Instr) (s : State),
    step { s with pending := c :: rest } = exec c { s with pending := rest }

/-- Every step answers a next state: no command faults and none is refused. -/
def Obligations.EveryStepAnswersANextState : Prop :=
  (∀ (c : Instr) (s : State), ∃ t, exec c s = .next t) ∧ ∀ s : State, ∃ t, step s = .next t

/-- On an empty queue the step taken is a ready one of the highest precedence among all that are ready, and a CLK period
passes when none is ready. The step taken on an empty queue is the model's choice (log entry 9); the order is R5's. -/
def Obligations.IdleStepTakesTheHighestPrecedence : Prop :=
  ∀ s : State, s.pending = [] →
    (∃ c ∈ readySteps s, (∀ d ∈ readySteps s, precedence (kindOf c) ≤ precedence (kindOf d)) ∧ step s = exec c s) ∨
    (readySteps s = [] ∧ step s = .next (clkPeriod s))

/-- A command that arrives stands behind every waiting command of its own or higher precedence and before every one of lower
precedence, and the others keep their order. A command that begins a reset discards every waiting host access, scan pass,
identify step and mailbox command step, and a waiting halt detection if the reset is full; the same steps are discarded when
they arrive behind a waiting reset, and by the step that ends part 1. An NRESET that only merges with the reset in progress
discards nothing. A write of 0x00 to SCANC and a halt detection discard a waiting scan pass, and a scan pass that becomes
ready while such a write waits, or a halt with no oscillator cycle after it, never takes place (R23, R37; log entry 28 for
the halt). Every other waiting command stays. The queue's arrival order is the model's choice (log entry 13), the place of
the events that R5 and R7 do not name too (log entries 27, 29 and 31); the order is otherwise that of R4, R5 and R7. -/
def Obligations.ArrivalKeepsPrecedenceAndResetDiscards : Prop :=
  (∀ (c : Instr) (s : State), QueueOrdered s.pending → ¬ DiscardedOnArrival s c →
    QueueOrdered (State.submit c s).pending ∧
    ∃ before after, (State.submit c s).pending = before ++ c :: after ∧
      (∀ d ∈ before, precedence (kindOf d) ≤ precedence (kindOf c)) ∧
      (∀ d ∈ after, precedence (kindOf c) < precedence (kindOf d)) ∧
      (before ++ after).Sublist s.pending ∧
      ((∀ full, ¬ Begins s full c) → ¬ EndsPartOne s c → ¬ (WritesStop c ∨ c = .haltDetection) →
        before ++ after = s.pending) ∧
      (WritesStop c ∨ c = .haltDetection → before ++ after = s.pending.filter (fun d => kindOf d != .scanPass))) ∧
  (∀ (c : Instr) (s : State), DiscardedOnArrival s c → State.submit c s = s) ∧
  (∀ (c : Instr) (full : Bool) (s : State), Begins s full c →
    ∀ d, d ∈ (State.submit c s).pending ↔
      d = c ∨ (d ∈ s.pending ∧ ¬ MainDomainStep d ∧ (full = true → d ≠ .haltDetection))) ∧
  (∀ (c : Instr) (s : State), EndsPartOne s c →
    ∀ d, d ∈ (State.submit c s).pending ↔ d = c ∨ (d ∈ s.pending ∧ ¬ MainDomainStep d)) ∧
  ∀ s : State, s.sup.power ≠ .mainOn ∨ s.sup.phase = .held →
    ∀ d, d ∈ (State.submit .nreset s).pending ↔ d = .nreset ∨ d ∈ s.pending

/-- Right after reset (log entry 1 says which reset) every block of the main domain has its reset values, and every register
reads as the "At reset" column of its chapter says. -/
def Obligations.ResetHoldsTheRegisterValues : Prop :=
  BlocksReset State.reset ∧ State.reset.lv.latches = 0 ∧ State.reset.fault = {} ∧ State.reset.lv.nint = false ∧
  State.reset.pending = [] ∧
  [0x00#6, 0x01#6, 0x03#6, 0x05#6, 0x08#6, 0x10#6, 0x18#6, 0x19#6, 0x1A#6, 0x1B#6, 0x1C#6, 0x1D#6, 0x1F#6, 0x20#6,
    0x23#6, 0x24#6, 0x37#6, 0x38#6, 0x39#6, 0x3A#6, 0x3B#6, 0x3C#6, 0x3D#6, 0x3E#6].map
      (fun a => readValue a State.reset) =
    [0x47, 0x01, 0x00, 0x00, 0x00, 0x00, 0x00, 0x00, 0x00, 0x00, 0x00, 0xFF, 0x01, 0x00,
      0xFF, 0x00, 0x00, 0x1F, 0xFF, 0x00, 0x00, 0x00, 0x00, 0x00]

/-- The reset state has every property that every step keeps. -/
def Obligations.ResetHasTheInvariants : Prop :=
  BlocksLegal State.reset ∧ TablesCanonical State.reset ∧ RolloverBounded State.reset ∧ WakeLatched State.reset ∧
  InterruptFollows State.reset

/-! ### Host port (Chapter 1) -/

/-- While nHRST is asserted every host access is ignored: a read returns 0x00, a write has no effect, and no side effect takes
place. In the stretch the access still ends as a step of the running main domain does (DEDUCED, log entry 14); while the main
domain is held in reset, in part 1 of a sequence or in BROWN-OUT, it is no step, and only the byte read appears. -/
def Obligations.ClosedPortIgnoresEveryAccess : Prop :=
  (∀ (c : Instr) (s : State), PortClosed s → kindOf c = .hostAccess →
    ∃ t, exec c s = .next t ∧ QuietStep [.dataBus] s t ∧
      t.port.dataBus =
        (if (∃ a, c = .lowByteRead a) ∨ c = .tqlostRead ∨ c = .headSnapshot ∨ c = .accept ∨ c = .fldbRead then 0
         else s.port.dataBus)) ∧
  ∀ (c : Instr) (s : State), (s.sup.power = .mainOn ∧ s.sup.phase = .held) ∨ s.sup.power = .brownOut →
    kindOf c = .hostAccess →
    exec c s = .next (if (∃ a, c = .lowByteRead a) ∨ c = .tqlostRead ∨ c = .headSnapshot ∨ c = .accept ∨ c = .fldbRead
      then { s with port := { s.port with dataBus := 0 } } else s)

/-- REGISTER_WRITE at an address with no row of its own: 0x08 to 0x0F store the byte in ARG0 to ARG7, and any other
address, SCANC with a byte other than 0x00 and 0x01 included, has no effect. LOW_BYTE_WRITE stores the byte in the write
holding latch and does nothing else. LAMPS_WRITE stores bits 2 to 0 of the byte; the lamps show them in LAMP-MODE HOST and
the toggles in AUTO. -/
def Obligations.PlainWritesStoreTheirByte : Prop :=
  (∀ (a : Addr) (d : Byte) (s : State), PortOpen s → (Instr.registerWrite a d).wellFormed = true →
    ∃ t, exec (.registerWrite a d) s = .next t ∧ QuietStep [.mailbox] s t ∧
      t.mb = { s.mb with args := t.mb.args } ∧
      ∀ i : Fin 8, t.mb.args[i] = if a.toNat = 8 + i.val then d else s.mb.args[i]) ∧
  (∀ (a : Addr) (d : Byte) (s : State), PortOpen s → (Instr.lowByteWrite a d).wellFormed = true →
    ∃ t, exec (.lowByteWrite a d) s = .next t ∧ QuietStep [.writeLatch] s t ∧ t.port.writeLatch = d) ∧
  ∀ (d : Byte) (s : State), PortOpen s →
    ∃ t, exec (.lampsWrite d) s = .next t ∧ QuietStep [.lamps] s t ∧
      (∀ i, i < 3 → t.tr.lampsReg.getLsbD i = d.getLsbD i) ∧
      (s.cfg.lampMode = 1 → lampOutputs t = t.tr.lampsReg) ∧
      (s.cfg.lampMode = 0 → (lampOutputs t).getLsbD 0 = s.tr.locks.caps ∧ (lampOutputs t).getLsbD 1 = s.tr.locks.num ∧
        (lampOutputs t).getLsbD 2 = s.tr.locks.scroll)

/-- A read of the low byte of LVEN, LVPND or SRCLT returns the low byte of the register's value and copies its high byte into
the read holding latch. Every other read with no row of its own returns the register's value and has no effect: GSTAT the
eight summary flags as the last step left them, TQHT1, TQHINF and TQHPOS the fields of the head latch, and an address that
holds no readable register 0x00. -/
def Obligations.ReadsReturnTheRegistersValue : Prop :=
  (∀ s : State, PortOpen s → ∀ p : Addr × Half,
    p ∈ [(0x2A#6, s.lv.enables), (0x30#6, pendingWord s), (0x32#6, sourceWord s)] →
      ∃ t, exec (.lowByteRead p.1) s = .next t ∧ QuietStep [.dataBus, .readLatch] s t ∧
        t.port.dataBus = p.2.setWidth 8 ∧ t.port.readLatch = p.2.extractLsb' 8 8) ∧
  ∀ (a : Addr) (s : State), PortOpen s → (Instr.lowByteRead a).wellFormed = true →
    a ≠ 0x2A#6 → a ≠ 0x30#6 → a ≠ 0x32#6 →
    ∃ t, exec (.lowByteRead a) s = .next t ∧ QuietStep [.dataBus] s t ∧
      (∀ p ∈ plainRegisters s, a = p.1 → t.port.dataBus = p.2) ∧
      (∀ i : Fin 8, (a.toNat = 8 + i.val → t.port.dataBus = s.mb.args[i]) ∧
        (a.toNat = 16 + i.val → t.port.dataBus = s.mb.res[i])) ∧
      (a = 0x02#6 → t.port.dataBus.getLsbD 7 = s.lv.nint ∧ t.port.dataBus.getLsbD 6 = s.sup.pwrLow ∧
        t.port.dataBus.getLsbD 5 = s.tr.held ∧ t.port.dataBus.getLsbD 4 = s.sup.batLow ∧
        t.port.dataBus.getLsbD 3 = (s.tk.timeSet && s.tk.dateSet) ∧ t.port.dataBus.getLsbD 2 = s.sup.defaults ∧
        t.port.dataBus.getLsbD 1 = decide (s.id.state = .run) ∧ t.port.dataBus.getLsbD 0 = decide (s.mb.state = .busy)) ∧
      (a ∈ unreadableAddresses → t.port.dataBus = 0)

/-! ### Mailbox (Chapter 1) -/

/-- A write to MBCMD while IDLE or DONE copies ARG0 to ARG7 into the working copy, records the code and enters BUSY, and RES
and RESULT stay; while BUSY it changes nothing but the fault record, which takes a BUSY-VIOLATION with the rejected and the
running code. -/
def Obligations.CommandWriteStartsOrIsRejected : Prop :=
  ∀ (d : Byte) (s : State), PortOpen s →
    (s.mb.state ≠ .busy →
      ∃ t, exec (.mbcmdWrite d) s = .next t ∧ QuietStep [.mailbox] s t ∧
        t.mb = { state := .busy, result := s.mb.result, args := s.mb.args, work := s.mb.args, res := s.mb.res,
                 running := some d } ∧
        Started d t) ∧
    (∀ code, s.mb.state = .busy → s.mb.running = some code →
      ∃ t, exec (.mbcmdWrite d) s = .next t ∧ QuietStep [.fault] s t ∧
        t.fault = recordAfter ⟨.busyViolation, .mailbox, d, code⟩ s.fault)

/-- A started code that names no command completes with BAD-COMMAND and its fault; 0x00 and the codes above 0x70 are
among them. Of every command with argument checks, the first byte out of range ends the checks: BAD-ARGUMENT with the
command's code and that byte's index, and nothing else changes but the mailbox and the fault record. -/
def Obligations.BadCodesAndArgumentsAreReported : Prop :=
  (∀ (code : Byte) (s : State), Started code s → (∀ c, (code, c) ∉ commandTable) →
    ∃ t, exec .badCommand s = .next t ∧ Completes .badCommand Row.zero [.fault] s t ∧
      t.fault = recordAfter ⟨.badCommand, .mailbox, code, 0⟩ s.fault) ∧
  (∀ code : Byte, code = 0 ∨ 0x70 < code.toNat → ∀ c, (code, c) ∉ commandTable) ∧
  ∀ (code : Byte) (c : Instr) (s : State) (i : Nat), CommandCode code c → Started code s → badIndex s c = some i →
    ∃ t, exec c s = .next t ∧ Rejects code i s t

/-- ECHO returns its working copy and completes with OK, changing nothing else; the arguments it returns are those that
stood at the MBCMD write, even if an argument byte is written again before its step. -/
def Obligations.EchoReturnsTheSnapshot : Prop :=
  (∀ s : State, Started 0x01 s → ∃ t, exec .echo s = .next t ∧ Completes .ok s.mb.work [] s t) ∧
  ∀ (a : Addr) (d : Byte) (s t u : State), PortOpen s → s.mb.state ≠ .busy → (Instr.registerWrite a d).wellFormed = true →
    exec (.mbcmdWrite 0x01) s = .next t → exec (.registerWrite a d) t = .next u →
    ∃ v, exec .echo u = .next v ∧ v.mb.res = s.mb.args ∧ v.mb.result = .ok

/-- SET-CONFIG with a valid field and value changes that field of the operating configuration and nothing else; the image in
the backup memory keeps its bytes. READ-CONFIG returns the field that ARG0 names and changes no other state. -/
def Obligations.ConfigCommandsWriteAndReadOneField : Prop :=
  (∀ s : State, Started 0x60 s → badIndex s .setConfig = none →
    ∃ t, exec .setConfig s = .next t ∧ Completes .ok Row.zero [.config] s t ∧ t.cfg.chords = s.cfg.chords ∧
      ∀ id, 1 ≤ id → id ≤ 12 →
        fieldGet t.cfg id = if id = argNat s 0 then s.mb.work.getD 1 0 else fieldGet s.cfg id) ∧
  ∀ s : State, Started 0x61 s → badIndex s .readConfig = none →
    ∃ t, exec .readConfig s = .next t ∧ Completes .ok (oneByte (fieldGet s.cfg (argNat s 0))) [] s t

/-! ### Key translation (Chapter 3) -/

/-- LOAD-ENTRY stores its value in one entry with a parity bit that makes the 17 bits odd, and changes no other entry.
READ-ENTRY returns the stored value: with OK if the 17 bits are odd, otherwise with PARITY and a TABLE-PARITY fault that
names position and column; the entry is not repaired. -/
def Obligations.EntryCommandsWriteAndReadOneEntry : Prop :=
  (∀ s : State, TablesCanonical s → Started 0x10 s → badIndex s .loadEntry = none →
    ∃ t, exec .loadEntry s = .next t ∧ Completes .ok Row.zero [.entries] s t ∧
      (entryAt t (argNat s 0) (argNat s 1)).value = s.mb.work.getD 3 0 ++ s.mb.work.getD 2 0 ∧
      parityGood (entryAt t (argNat s 0) (argNat s 1)) = true ∧
      ∀ p c, c ≤ 4 → (p, c) ≠ (argNat s 0, argNat s 1) → entryAt t p c = entryAt s p c) ∧
  ∀ s : State, Started 0x11 s → badIndex s .readEntry = none →
    ∃ t, exec .readEntry s = .next t ∧
      (let e := entryAt s (argNat s 0) (argNat s 1)
       let out := twoBytes (e.value.setWidth 8) (e.value.extractLsb' 8 8)
       if (onesIn e.value + (if e.parity then 1 else 0)) % 2 = 1 then Completes .ok out [] s t
       else Completes .parity out [.fault] s t ∧
         t.fault = recordAfter ⟨.tableParity, .translator, s.mb.work.getD 0 0, s.mb.work.getD 1 0⟩ s.fault)

/-- SET-CLASS stores one class record and changes no other; READ-CLASS returns the class code, and the digit or 0xFF;
RESTORE-LAYOUT writes the position-code layout with fresh parity into every record and entry, and changes nothing else. -/
def Obligations.ClassCommandsAndTheBuiltInLayout : Prop :=
  (∀ s : State, TablesCanonical s → Started 0x12 s → badIndex s .setClass = none →
    ∃ t, exec .setClass s = .next t ∧ Completes .ok Row.zero [.classes] s t ∧
      ∀ p : Position,
        (p.val = argNat s 0 → classCode (classOf t p) = s.mb.work.getD 1 0 ∧ classDigit (classOf t p) = s.mb.work.getD 2 0) ∧
        (p.val ≠ argNat s 0 → classOf t p = classOf s p)) ∧
  (∀ s : State, ∀ p : Position, Started 0x13 s → argNat s 0 = p.val →
    ∃ t, exec .readClass s = .next t ∧
      Completes .ok (twoBytes (classCode (classOf s p)) (classDigit (classOf s p))) [] s t) ∧
  ∀ s : State, Started 0x14 s →
    ∃ t, exec .restoreLayout s = .next t ∧ Completes .ok Row.zero [.classes, .entries] s t ∧
      ∀ p : Position, classOf t p = .plain ∧
        (∀ c, c ≤ 3 → (entryAt t p.val c).value.toNat = (c + 1) * 256 + p.val) ∧
        (entryAt t p.val 4).value = 0x8000 ∧ ∀ c, c ≤ 4 → parityGood (entryAt t p.val c) = true

/-- SET-CHORD replaces the four fields of one chord entry; READ-CHORD returns them in the form of the arguments. -/
def Obligations.ChordCommandsWriteAndReadOneEntry : Prop :=
  (∀ s : State, Started 0x15 s → badIndex s .setChord = none →
    ∃ t, exec .setChord s = .next t ∧ Completes .ok Row.zero [.config] s t ∧
      (∀ id, fieldGet t.cfg id = fieldGet s.cfg id) ∧
      ∀ i : Fin 4,
        (i.val ≠ argNat s 0 → t.cfg.chords[i] = s.cfg.chords[i]) ∧
        (i.val = argNat s 0 → requirementsByte t.cfg.chords[i] = s.mb.work.getD 1 0 ∧
          t.cfg.chords[i].position.val = argNat s 2 ∧ actionCode t.cfg.chords[i].action = s.mb.work.getD 3 0 ∧
          t.cfg.chords[i].enabled = decide (argNat s 4 = 1))) ∧
  ∀ s : State, ∀ i : Fin 4, Started 0x16 s → argNat s 0 = i.val →
    ∃ t, exec .readChord s = .next t ∧
      Completes .ok #v[requirementsByte s.cfg.chords[i], byteOf s.cfg.chords[i].position.val,
        actionCode s.cfg.chords[i].action, if s.cfg.chords[i].enabled then 1 else 0, 0, 0, 0, 0] [] s t

/-- SET-LOCKS gives each toggle that its mask names the value of its bit and leaves the others; the lamps follow in AUTO, and
nothing else changes (R68). -/
def Obligations.SetLocksGivesTheMaskedToggles : Prop :=
  ∀ s : State, Started 0x17 s →
    (15 < argNat s 0 → ∃ t, exec .setLocks s = .next t ∧ Rejects 0x17 0 s t) ∧
    (argNat s 0 ≤ 15 → 15 < argNat s 1 → ∃ t, exec .setLocks s = .next t ∧ Rejects 0x17 1 s t) ∧
    (argNat s 0 ≤ 15 → argNat s 1 ≤ 15 → ∃ t, exec .setLocks s = .next t ∧ Completes .ok Row.zero [.locks] s t ∧
      (let mask := s.mb.work.getD 0 0
       let values := s.mb.work.getD 1 0
       t.tr.locks.caps = (if mask.getLsbD 0 then values.getLsbD 0 else s.tr.locks.caps) ∧
       t.tr.locks.num = (if mask.getLsbD 1 then values.getLsbD 1 else s.tr.locks.num) ∧
       t.tr.locks.scroll = (if mask.getLsbD 2 then values.getLsbD 2 else s.tr.locks.scroll) ∧
       t.tr.locks.insert = (if mask.getLsbD 3 then values.getLsbD 3 else s.tr.locks.insert)) ∧
      (s.cfg.lampMode = 0 → (lampOutputs t).getLsbD 0 = t.tr.locks.caps ∧ (lampOutputs t).getLsbD 1 = t.tr.locks.num ∧
        (lampOutputs t).getLsbD 2 = t.tr.locks.scroll))

/-- READ-KEYSTATE returns the lock state, the held set, HELD, compose, the tracked-key count and the position of the armed
repeat, and changes no other state (R69). -/
def Obligations.ReadKeystateReturnsTheKeyState : Prop :=
  ∀ s : State, Started 0x18 s → ∃ t, exec .readKeystate s = .next t ∧ Completes .ok t.mb.res [] s t ∧
    (let held (m : ModClass) : Bool := s.tr.modKeys.any (fun k => k.2 == m)
     t.mb.res[0] = (if s.tr.locks.caps then 1 else 0) + (if s.tr.locks.num then 2 else 0) +
       (if s.tr.locks.scroll then 4 else 0) + (if s.tr.locks.insert then 8 else 0) ∧
     t.mb.res[1] = (if held .shiftL then 1 else 0) + (if held .shiftR then 2 else 0) + (if held .ctrlL then 4 else 0) +
       (if held .ctrlR then 8 else 0) + (if held .altL then 16 else 0) + (if held .altR then 32 else 0)) ∧
    t.mb.res[2] = (if s.tr.held then 1 else 0) ∧ t.mb.res[3] = s.tr.acc ∧ t.mb.res[4] = s.tr.digits ∧
    t.mb.res[5] = byteOf ((List.finRange 128).countP (fun p => isTracked (posOf s.scan.positions p))) ∧
    t.mb.res[6] = (match s.rep with | .idle => 0xFF#8 | .armed _ p _ _ => byteOf p.val) ∧ t.mb.res[7] = 0

/-- END-HOLD leaves HELD and sets the HOLD latch if HELD is in force, changes nothing otherwise, and completes with OK. -/
def Obligations.EndHoldLeavesHeld : Prop :=
  ∀ s : State, Started 0x19 s → ∃ t, exec .endHold s = .next t ∧ t.tr.held = false ∧
    t.mb = { s.mb with state := .done, result := .ok, res := Row.zero, running := none } ∧
    MainStep (s.lv.latches ||| (if s.tr.held then 0x0810#16 else 0x0800#16)) [.mailbox, .held] s t

/-! ### The press pipeline (Chapter 3, section 3.6) -/

/-- The column of a press (R47), over every class, held set, lock state and LOCK-MODE. -/
def Obligations.ColumnFollowsClassHeldSetAndLocks : Prop :=
  ∀ (c : KeyClass) (s : State), s.cfg.lockMode = 0 ∨ s.cfg.lockMode = 1 →
    (altHeld s = true → selectColumn c s = .alt) ∧
    (altHeld s = false → ctrlHeld s = true → selectColumn c s = .ctrl) ∧
    (altHeld s = false → ctrlHeld s = false →
      (c = .letter → selectColumn c s =
        if (if s.cfg.lockMode = 0 then xor s.tr.locks.caps (shiftHeld s) else s.tr.locks.caps || shiftHeld s) then .shift
        else .normal) ∧
      (∀ d, c = .keypad d → s.cfg.lockMode = 0 →
        selectColumn c s = if xor s.tr.locks.num (shiftHeld s) then .lock else .normal) ∧
      (∀ d, c = .keypad d → s.cfg.lockMode = 1 →
        selectColumn c s = if s.tr.locks.num then .lock else if shiftHeld s then .shift else .normal) ∧
      (c = .plain ∨ c = .insert → selectColumn c s = if shiftHeld s then .shift else .normal))

/-- While HELD is in force, a press of a non-modifier class only ends HELD and sets the HOLD latch. A modifier press joins the
modifier key list and changes nothing else, in HELD or out of it. A press of class CAPS, NUM or SCROLL outside HELD inverts
its toggle and changes nothing else. -/
def Obligations.ConsumedPressesChangeOnlyTheirOwnState : Prop :=
  (∀ (p : Position) (s : State), s.tr.held = true → modifierOf (classOf s p) = none →
    (pressEvent p s).2 = [] ∧ (pressEvent p s).1.tr.held = false ∧
      (pressEvent p s).1.lv.latches = s.lv.latches ||| 0x0010#16 ∧
      ChangesOnly [.held, .latches] s (pressEvent p s).1) ∧
  (∀ (p : Position) (m : ModClass) (s : State), modifierOf (classOf s p) = some m →
    (pressEvent p s).2 = [] ∧ (pressEvent p s).1.tr.modKeys = (p, m) :: s.tr.modKeys ∧
      ChangesOnly [.modKeys] s (pressEvent p s).1) ∧
  ∀ (p : Position) (s : State), s.tr.held = false →
    (classOf s p = .caps ∨ classOf s p = .num ∨ classOf s p = .scroll) →
    (pressEvent p s).2 = [] ∧ ChangesOnly [.locks] s (pressEvent p s).1 ∧
      (pressEvent p s).1.tr.locks = locksAfter (classOf s p) s.tr.locks

/-- A translating press outside HELD that no chord entry matches and that is no compose digit: a token entry with good parity
gives a KEY record, offered to the queue, and arms the repeat with its copy; a void entry gives nothing; bad parity gives a
TABLE-PARITY fault and no record. In every case a running repeat has been cancelled; INSERT has toggled its lock, and under
alt with COMPOSE ON the compose accumulator is cleared. -/
def Obligations.UnchordedPressTranslates : Prop :=
  ∀ (p : Position) (s : State), s.tr.held = false → Translating (classOf s p) → findChord p s = none →
    ¬ IsComposeDigit s (classOf s p) →
    let column := columnNumber (selectColumn (classOf s p) s)
    let e := entryAt s p.val column
    let u := (pressEvent p s).1
    u.tr.locks = locksAfter (classOf s p) s.tr.locks ∧
    (u.tr.acc, u.tr.digits) = (if s.cfg.compose = 1 ∧ altHeld s = true then (0, 0) else (s.tr.acc, s.tr.digits)) ∧
    (parityGood e = false →
      (pressEvent p s).2 = [⟨.tableParity, .translator, byteOf p.val, byteOf column⟩] ∧ u.rep = .idle ∧
        ChangesOnly [.repetition, .locks, .compose] s u) ∧
    (parityGood e = true → (pressEvent p s).2 = []) ∧
    (parityGood e = true → 0x8000 ≤ e.value.toNat → u.rep = .idle ∧ ChangesOnly [.repetition, .locks, .compose] s u) ∧
    (parityGood e = true → e.value.toNat < 0x8000 →
      let r : QRecord := { token := e.value, source := .key, position := some p, mods := some (currentMods s) }
      u.rep = .armed .delay p { r with source := .repeated } (16 * (s.cfg.repeatDelay.toNat + 1)) ∧
      (s.tq.records.length < 32 →
        u.tq.records = s.tq.records ++ [r] ∧ ChangesOnly [.repetition, .locks, .compose, .records] s u) ∧
      (32 ≤ s.tq.records.length →
        u.tq.lost = (if s.tq.lost = 255 then 255 else s.tq.lost + 1) ∧ u.lv.latches = s.lv.latches ||| 0x0004#16 ∧
          ChangesOnly [.repetition, .locks, .compose, .lost, .latches] s u))

/-- The chord entry that a translating press fires is the first enabled one whose position and three requirements agree
exactly; it cancels the repeat, clears compose, and does what its action says. -/
def Obligations.FirstMatchingChordActs : Prop :=
  ∀ (p : Position) (i : Fin 4) (s : State), s.tr.held = false → Translating (classOf s p) →
    (let agrees (j : Fin 4) : Prop :=
      s.cfg.chords[j].enabled = true ∧ s.cfg.chords[j].position = p ∧ s.cfg.chords[j].shift = shiftHeld s ∧
        s.cfg.chords[j].ctrl = ctrlHeld s ∧ s.cfg.chords[j].alt = altHeld s
     agrees i ∧ ∀ j, j < i → ¬ agrees j) →
    let u := (pressEvent p s).1
    (pressEvent p s).2 = [] ∧ u.rep = .idle ∧ u.tr.acc = 0 ∧ u.tr.digits = 0 ∧
    u.tr.locks = locksAfter (classOf s p) s.tr.locks ∧
    (s.cfg.chords[i].action = .attention →
      u.lv.latches = s.lv.latches ||| 0x0008#16 ∧ u.tr.lastChord = byteOf i.val ∧
        ChangesOnly [.repetition, .locks, .compose, .latches, .lastChord] s u) ∧
    (s.cfg.chords[i].action = .flushMark →
      u.lv.latches = s.lv.latches ||| 0x0008#16 ∧ u.tr.lastChord = byteOf i.val ∧
        u.tq.records = [{ token := 0, source := .marker, position := none, mods := none }] ∧
        ChangesOnly [.repetition, .locks, .compose, .latches, .lastChord, .records] s u) ∧
    (s.cfg.chords[i].action = .hold →
      u.lv.latches = s.lv.latches ||| 0x0010#16 ∧ u.tr.held = true ∧
        ChangesOnly [.repetition, .locks, .compose, .latches, .held] s u) ∧
    (s.cfg.chords[i].action = .hostReset → s.sup.request = none →
      u.sup.request = some .chord ∧ ChangesOnly [.repetition, .locks, .compose, .request] s u)

/-- With COMPOSE ON and alt held alone, a KEYPAD digit that fires no chord joins the accumulator modulo 256 and is consumed;
the release that ends alt offers the COMPOSE record and clears the accumulator. Every release removes its own key from the
modifier key list and cancels the repeat of its own position and of no other; one that does not end alt changes nothing
else; one that ends it clears the accumulator and offers a record only with COMPOSE ON, a digit typed and a value other than
0, and on a full queue that record is counted in TQLOST and latched. -/
def Obligations.ComposeCollectsDigitsUntilAltEnds : Prop :=
  (∀ (p : Position) (d : Fin 10) (s : State), s.tr.held = false → s.cfg.compose = 1 → classOf s p = .keypad (some d) →
    altHeld s = true → ctrlHeld s = false → shiftHeld s = false → findChord p s = none →
    let u := (pressEvent p s).1
    (pressEvent p s).2 = [] ∧ u.tr.acc.toNat = (s.tr.acc.toNat * 10 + d.val) % 256 ∧
      u.tr.digits.toNat = min 255 (s.tr.digits.toNat + 1) ∧ u.rep = .idle ∧ ChangesOnly [.compose, .repetition] s u) ∧
  ∀ (p : Position) (s : State), s.cfg.compose = 1 → altHeld s = true →
    (let rest := s.tr.modKeys.filter (fun k => k.1 != p)
     let held (m : ModClass) : Bool := rest.any (fun k => k.2 == m)
     held .altL = false → held .altR = false →
     let u := releaseEvent p s
     u.tr.modKeys = rest ∧ u.tr.acc = 0 ∧ u.tr.digits = 0 ∧
     (s.tr.digits ≠ 0 → s.tr.acc ≠ 0 → s.tq.records.length < 32 →
       u.tq.records = s.tq.records ++ [{
         token := s.tr.acc.setWidth 16, source := .compose, position := none,
         mods := some { shift := held .shiftL || held .shiftR, ctrl := held .ctrlL || held .ctrlR, alt := false,
                        caps := s.tr.locks.caps, num := s.tr.locks.num } }]) ∧
     (s.tr.digits = 0 ∨ s.tr.acc = 0 → u.tq = s.tq)) ∧
  ∀ (p : Position) (s : State),
    (let rest := s.tr.modKeys.filter (fun k => k.1 != p)
     let altLeft : Bool := rest.any (fun k => k.2 == .altL || k.2 == .altR)
     let ends : Prop := altHeld s = true ∧ altLeft = false
     let forms : Prop := s.cfg.compose = 1 ∧ s.tr.digits ≠ 0 ∧ s.tr.acc ≠ 0
     let u := releaseEvent p s
     u.tr.modKeys = rest ∧
     u.rep = (match s.rep with
       | .idle => .idle
       | .armed phase q r n => if q = p then .idle else .armed phase q r n) ∧
     (¬ ends → ChangesOnly [.modKeys, .repetition] s u) ∧
     (ends → u.tr.acc = 0 ∧ u.tr.digits = 0) ∧
     (ends → ¬ forms → ChangesOnly [.modKeys, .compose, .repetition] s u) ∧
     (ends → forms → s.tq.records.length < 32 →
       (∃ r, u.tq.records = s.tq.records ++ [r] ∧ r.source = .compose ∧ r.token = s.tr.acc.setWidth 16) ∧
         ChangesOnly [.modKeys, .compose, .repetition, .records] s u) ∧
     (ends → forms → 32 ≤ s.tq.records.length →
       u.tq.lost = (if s.tq.lost = 255 then 255 else s.tq.lost + 1) ∧ u.lv.latches = s.lv.latches ||| 0x0004#16 ∧
         ChangesOnly [.modKeys, .compose, .repetition, .lost, .latches] s u))

/-! ### Scan passes (Chapter 2) -/

/-- A scan pass records the raw image of the examined drive lines and changes nothing outside the scanner, translation, the
queue, the repeat, the fault record, its own reset request, and of the latches QUEUE-OVERFLOW, ATTENTION-CHORD, HOLD and
MATRIX. A ready pass leaves the timer, which restarted when the pass became ready; a pass that its sender brings earlier
restarts it with the SCAN-PERIOD in force (the model's choice, log entry 10). The pass delivers its release events in
ascending order and then its press events in ascending order, each seeing the results of those before it, and its faults are
captured together. A position that enters blocking sets the MATRIX latch, and the highest of them is the last blocked
position; with none both stay. -/
def Obligations.ScanPassKeepsItsBounds : Prop :=
  ∀ (seen : BitVec 128) (s : State), PassReady s →
    ∃ t, exec (.scanPass seen) s = .next t ∧
      (∀ p : Position, t.scan.raw.getLsbD p.val = true ↔ SeenDown s seen p) ∧
      t.scan.ready = false ∧
      (s.scan.ready = false → t.scan.timer = 0 ∧
        t.scan.interval = (match s.cfg.scanPeriod.toNat with | 0 => 128 | 1 => 256 | _ => 512)) ∧
      (s.scan.ready = true → t.scan.timer = s.scan.timer ∧ t.scan.interval = s.scan.interval) ∧
      EndsStep s t t.lv.latches ∧
      (TablesCanonical s →
        let r := delivered (beforeDelivery s t) (releasesIn s t) (pressesIn s t)
        t.tr = r.1.tr ∧ t.tq = r.1.tq ∧ t.rep = r.1.rep ∧ t.sup.request = r.1.sup.request ∧
        t.fault = captureInto s.fault r.2 ∧ EndsStep s t r.1.lv.latches ∧
        t.scan.lastBlocked =
          (match (blockedIn s t).getLast? with | some p => byteOf p.val | none => s.scan.lastBlocked)) ∧
      (∀ n, n ∈ [6, 7, 8, 11, 13] → t.lv.latches.getLsbD n = s.lv.latches.getLsbD n) ∧
      t.lv.latches.getLsbD 12 = (s.lv.latches.getLsbD 12 || ((seenPins s).vddLow && !s.sup.pwrLow)) ∧
      ChangesOnly [.positions, .raw, .lastBlocked, .scanTimer, .modKeys, .locks, .held, .compose, .lastChord, .records,
        .lost, .repetition, .latches, .fault, .request] s t

/-- How a position stands after a pass: a tracked one by the release stage (R26, R33), any other by the press stage (R27 to
R31, R33). A qualifying position that is not ambiguous is refused for rollover exactly when eight keys are tracked at its own
place in the ascending order (R28). -/
def Obligations.PositionsFollowTheTwoStages : Prop :=
  (∀ (seen : BitVec 128) (s t : State) (p : Position), TablesCanonical s → PassReady s →
    exec (.scanPass seen) s = .next t →
    (∀ k, posOf s.scan.positions p = .down ∨ posOf s.scan.positions p = .releasing k →
      classOf s p = .unused → posOf t.scan.positions p = .up) ∧
    (classOf s p ≠ .unused →
      (posOf s.scan.positions p = .down → SeenDown s seen p → posOf t.scan.positions p = .down) ∧
      (posOf s.scan.positions p = .down → ¬ SeenDown s seen p →
        posOf t.scan.positions p = if s.cfg.debounce.toNat ≤ 1 then .up else .releasing 1) ∧
      (∀ k, posOf s.scan.positions p = .releasing k → SeenDown s seen p → posOf t.scan.positions p = .down) ∧
      (∀ k, posOf s.scan.positions p = .releasing k → ¬ SeenDown s seen p →
        posOf t.scan.positions p = if s.cfg.debounce.toNat ≤ k + 1 then .up else .releasing (k + 1)))) ∧
  ∀ (seen : BitVec 128) (s t : State) (p : Position), TablesCanonical s → PassReady s →
    exec (.scanPass seen) s = .next t → isTracked (posOf s.scan.positions p) = false →
    let old := posOf s.scan.positions p
    let new := posOf t.scan.positions p
    let d := s.cfg.debounce.toNat
    let qualifies := (old = .up ∧ d ≤ 1) ∨ (∃ k, old = .pressing k ∧ d ≤ k + 1) ∨ old = .blockedGhost
    (classOf s p = .unused ∨ ¬ SeenDown s seen p → new = .up) ∧
    (classOf s p ≠ .unused → SeenDown s seen p →
      (old = .up → 1 < d → new = .pressing 1) ∧
      (∀ k, old = .pressing k → k + 1 < d → new = .pressing (k + 1)) ∧
      (old = .blockedRollover → new = .blockedRollover) ∧
      (qualifies → Ambiguous s seen p → new = .blockedGhost) ∧
      (qualifies → ¬ Ambiguous s seen p → new ≠ .down →
        8 ≤ trackedCount t ∧ new = if old = .blockedGhost then .blockedGhost else .blockedRollover) ∧
      (qualifies → ¬ Ambiguous s seen p →
        new = if trackedBefore s t p < 8 then .down
          else if old = .blockedGhost then .blockedGhost else .blockedRollover))

/-- SCANC (R37, R38, R70): a write of 0x00 while scanning runs stops it, discards a ready pass and forgets every key with no
release event; a write
of 0x01 while it is stopped starts it with the timer at 0 and the SCAN-PERIOD in force; either write in the state it names
has no effect. -/
def Obligations.ScanControlStopsAndStarts : Prop :=
  ∀ s : State, PortOpen s →
    (s.scan.run = true → ∃ t, exec .scancStop s = .next t ∧
      QuietStep [.scanRun, .scanTimer, .positions, .raw, .modKeys, .compose, .repetition] s t ∧
      t.scan.run = false ∧ t.scan.timer = 0 ∧ t.scan.ready = false ∧ t.scan.interval = s.scan.interval ∧
      (∀ p : Position, posOf t.scan.positions p = .up) ∧ t.scan.raw = 0 ∧
      t.tr.modKeys = [] ∧ t.tr.acc = 0 ∧ t.tr.digits = 0 ∧ t.rep = .idle) ∧
    (s.scan.run = false → ∃ t, exec .scancStop s = .next t ∧ QuietStep [] s t) ∧
    (s.scan.run = false → ∃ t, exec .scancRun s = .next t ∧ QuietStep [.scanRun, .scanTimer] s t ∧
      t.scan.run = true ∧ t.scan.timer = 0 ∧ t.scan.ready = false ∧
      t.scan.interval = (match s.cfg.scanPeriod.toNat with | 0 => 128 | 1 => 256 | _ => 512)) ∧
    (s.scan.run = true → ∃ t, exec .scancRun s = .next t ∧ QuietStep [] s t)

/-! ### Token queue and repeat (Chapter 4) -/

/-- INSERT appends a HOST record and returns the new count, or finds the queue full and completes with FULL, changing
nothing; FLUSH removes every record, cancels the repeat and returns the number removed. A read of TQLOST returns the count
and clears it; a read of TQHT0 returns the low byte of the head token and copies the head record, or the empty snapshot,
into the head latch; a write to TQTAKE removes the head record, if there is one. -/
def Obligations.QueueAccessesFollowTheirRules : Prop :=
  (∀ s : State, Started 0x20 s →
    (s.tq.records.length < 32 → ∃ t, exec .insert s = .next t ∧
      Completes .ok (oneByte (byteOf (s.tq.records.length + 1))) [.records] s t ∧
      t.tq.records = s.tq.records ++
        [{ token := s.mb.work.getD 1 0 ++ s.mb.work.getD 0 0, source := .host, position := none, mods := none }]) ∧
    (32 ≤ s.tq.records.length → ∃ t, exec .insert s = .next t ∧ Completes .full Row.zero [] s t)) ∧
  (∀ s : State, Started 0x21 s → ∃ t, exec .flush s = .next t ∧
    Completes .ok (oneByte (byteOf s.tq.records.length)) [.records, .repetition] s t ∧ t.tq.records = [] ∧ t.rep = .idle) ∧
  ∀ s : State, PortOpen s →
    (∃ t, exec .tqlostRead s = .next t ∧ QuietStep [.dataBus, .lost] s t ∧ t.port.dataBus = s.tq.lost ∧ t.tq.lost = 0) ∧
    (∃ t, exec .headSnapshot s = .next t ∧ QuietStep [.dataBus, .headLatch] s t ∧ t.tq.headLatch = s.tq.records.head? ∧
      t.port.dataBus = (match s.tq.records with | [] => 0 | r :: _ => r.token.setWidth 8)) ∧
    ∀ d : Byte, ∃ t, exec (.tqtake d) s = .next t ∧ QuietStep [.records] s t ∧ t.tq.records = s.tq.records.drop 1

/-- The tick in which the repeat countdown reaches 0 offers a copy of the stored record unless the throttle skips it, and
reloads the countdown; a discarded copy is counted and latched, and a skipped or appended one leaves the QUEUE-OVERFLOW
latch as it was. -/
def Obligations.RepeatExpiryOffersOrSkips : Prop :=
  ∀ (phase : RepeatPhase) (p : Position) (r : QRecord) (n : Nat) (s : State), Runs s → NotHalted s →
    s.rep = .armed phase p r n → n ≤ 1 →
    ∃ t, exec .repeatExpiry s = .next t ∧ exec .timebaseTick s = .next t ∧
      t.rep = .armed .repeating p r s.cfg.repeatInterval.toNat ∧
      (let count := s.tq.records.length
       let skipped := s.cfg.repeatThrottle ≠ 0 ∧ s.cfg.repeatThrottle.toNat ≤ count
       (skipped → t.tq = s.tq ∧ t.lv.latches.getLsbD 2 = s.lv.latches.getLsbD 2) ∧
       (¬ skipped → count < 32 → t.tq = { s.tq with records := s.tq.records ++ [r] } ∧
         t.lv.latches.getLsbD 2 = s.lv.latches.getLsbD 2) ∧
       (¬ skipped → 32 ≤ count →
         t.tq = { s.tq with lost := if s.tq.lost = 255 then 255 else s.tq.lost + 1 } ∧ t.lv.latches.getLsbD 2 = true)) ∧
      EndsStep s t t.lv.latches ∧
      ChangesOnly [.latches, .records, .lost, .repetition, .calendar, .counters, .alarm, .batLow, .watchdog, .request,
        .stretch] s t

/-! ### Event levels (Chapter 5) -/

/-- A level is pending when its soft request is set or an active source contributes to it; to level 15 contribute WATCHDOG
and FAULT and no other (R94, R97). A level is eligible under the four conditions of R101, and the highest eligible level is
the eligible one with the largest number. QUEUE-READY and WATERMARK follow the queue count, CHAIN-A and CHAIN-B the attention
lines of the last step end while CHAIN is ON, FAULT the lock of the fault record, and each of the ten latched sources its
latch; bit 15 of SRCLT is 0, and bit L of LVPND shows level L (R83, R91, R92, R97, R120, R136). -/
def Obligations.PendingAndEligibleLevels : Prop :=
  (∀ (s : State) (l : Level),
    levelPending s l = true ↔
      s.lv.soft.getLsbD l.val = true ∨
      if l.val = 15 then sourceActive s 13 = true ∨ sourceActive s 14 = true
      else ∃ n : Fin 13, s.lv.routes[n].toNat = l.val ∧ sourceActive s n.val = true) ∧
  (∀ (s : State) (l : Level),
    eligible s l = true ↔
      levelPending s l = true ∧ s.lv.enables.getLsbD l.val = true ∧ (s.lv.switch = true ∨ l = 15) ∧
      (s.lv.stack = [] ∨ ∃ top rest, s.lv.stack = top :: rest ∧ top < l)) ∧
  (∀ (s : State) (l : Level), highestEligible s = some l ↔ eligible s l = true ∧ ∀ m, eligible s m = true → m ≤ l) ∧
  (∀ s : State, highestEligible s = none ↔ ∀ l, eligible s l = false) ∧
  (∀ s : State, LevelsLegal s →
    (sourceActive s 0 = true ↔ 1 ≤ s.tq.records.length) ∧
    (sourceActive s 1 = true ↔ s.cfg.watermark.toNat ≤ s.tq.records.length) ∧
    (sourceActive s 9 = true ↔ s.cfg.chain = 1 ∧ s.lv.atnA = true) ∧
    (sourceActive s 10 = true ↔ s.cfg.chain = 1 ∧ s.lv.atnB = true) ∧
    (sourceActive s 14 = true ↔ s.fault.locked = true) ∧
    (∀ n, n ∈ [2, 3, 4, 5, 6, 7, 8, 11, 12, 13] → sourceActive s n = s.lv.latches.getLsbD n) ∧
    (sourceWord s).getLsbD 15 = false ∧ ∀ n, n < 15 → (sourceWord s).getLsbD n = sourceActive s n) ∧
  ∀ (s : State) (l : Level), (pendingWord s).getLsbD l.val = levelPending s l

/-- The committed 16-bit writes: LVENS and LVENC set and clear enables, never that of level 15; LVRQS and LVRQC set and clear
soft requests. The low byte is the write holding latch, which stays. SRCCL clears the latches that the committed mask
selects, and with bit 6 the wake flag too. A write of 0x01 to LVCTL sets the global switch ON, of 0x00 OFF, and any other
byte has no effect. -/
def Obligations.LevelRegisterWritesChangeTheirWord : Prop :=
  (∀ (d : Byte) (s : State), PortOpen s →
    let mask : Half := d ++ s.port.writeLatch
    (∃ t, exec (.lvens d) s = .next t ∧ QuietStep [.enables] s t ∧
      ∀ l : Level, t.lv.enables.getLsbD l.val = (s.lv.enables.getLsbD l.val || mask.getLsbD l.val)) ∧
    (∃ t, exec (.lvenc d) s = .next t ∧ QuietStep [.enables] s t ∧
      ∀ l : Level, t.lv.enables.getLsbD l.val = (s.lv.enables.getLsbD l.val && (!mask.getLsbD l.val || l == 15))) ∧
    (∃ t, exec (.lvrqs d) s = .next t ∧ QuietStep [.soft] s t ∧
      ∀ l : Level, t.lv.soft.getLsbD l.val = (s.lv.soft.getLsbD l.val || mask.getLsbD l.val)) ∧
    (∃ t, exec (.lvrqc d) s = .next t ∧ QuietStep [.soft] s t ∧
      ∀ l : Level, t.lv.soft.getLsbD l.val = (s.lv.soft.getLsbD l.val && !mask.getLsbD l.val))) ∧
  ∀ (d : Byte) (s : State), PortOpen s →
    (let mask : Half := d ++ s.port.writeLatch
     ∃ t, exec (.srccl d) s = .next t ∧ MainStep (s.lv.latches &&& ~~~mask) [.wake] s t ∧
       t.tk.wake = (s.tk.wake && !mask.getLsbD 6)) ∧
    ∃ t, exec (.lvctlWrite d) s = .next t ∧ QuietStep [.switch] s t ∧
      t.lv.switch = (if d = 1 then true else if d = 0 then false else s.lv.switch)

/-- A read of LVACC pushes the highest eligible level and returns it, or returns 0xFF and changes nothing. After a push nINT
is released, unless an input that the step's end samples makes a higher level eligible. A write to LVREL pops the top of the
service stack and clears its soft request; on an empty stack it captures a SEQUENCE fault with origin LEVELS and changes no
level state. -/
def Obligations.AcceptPushesAndReleasePops : Prop :=
  (∀ s : State, PortOpen s →
    (∀ l, eligible s l = true → (∀ m, eligible s m = true → m ≤ l) →
      ∃ t, exec .accept s = .next t ∧ QuietStep [.dataBus, .stack] s t ∧ t.port.dataBus = byteOf l.val ∧
        t.lv.stack = l :: s.lv.stack ∧
        ((seenPins s).vddLow = false → (seenPins s).atnA = s.lv.atnA → (seenPins s).atnB = s.lv.atnB →
          t.lv.nint = false)) ∧
    ((∀ l, eligible s l = false) →
      ∃ t, exec .accept s = .next t ∧ QuietStep [.dataBus] s t ∧ t.port.dataBus = 0xFF)) ∧
  ∀ (d : Byte) (s : State), PortOpen s →
    (∀ top rest, s.lv.stack = top :: rest →
      ∃ t, exec (.release d) s = .next t ∧ QuietStep [.stack, .soft] s t ∧ t.lv.stack = rest ∧
        ∀ l : Level, t.lv.soft.getLsbD l.val = (s.lv.soft.getLsbD l.val && l != top)) ∧
    (s.lv.stack = [] →
      ∃ t, exec (.release d) s = .next t ∧ QuietStep [.fault] s t ∧
        t.fault = recordAfter ⟨.sequence, .levels, 0xFF, 0⟩ s.fault)

/-- SET-ROUTE sets the route of one programmable source and no other; READ-ROUTE returns it (R95, R96). -/
def Obligations.RouteCommandsWriteAndReadOneRoute : Prop :=
  (∀ s : State, Started 0x30 s → badIndex s .setRoute = none →
    ∃ t, exec .setRoute s = .next t ∧ Completes .ok Row.zero [.routes] s t ∧
      ∀ n : Fin 13, t.lv.routes[n].toNat = if n.val = argNat s 0 then argNat s 1 else s.lv.routes[n].toNat) ∧
  ∀ s : State, Started 0x31 s →
    (12 < argNat s 0 → ∃ t, exec .readRoute s = .next t ∧ Rejects 0x31 0 s t) ∧
    ∀ n : Fin 13, argNat s 0 = n.val →
      ∃ t, exec .readRoute s = .next t ∧ Completes .ok (oneByte (byteOf s.lv.routes[n].toNat)) [] s t

/-! ### Identify engine and attention chain (Chapter 6) -/

/-- A write to IDSTART: refused with BUSY-VIOLATION while RUN; above 15 it posts NONE and 0xFF with a BAD-ARGUMENT fault;
otherwise the engine runs for the level written and IDSRC and IDCODE stay. -/
def Obligations.IdentifyStartIsTakenOrRefused : Prop :=
  ∀ (d : Byte) (s : State), PortOpen s →
    (s.id.state = .run → ∃ t, exec (.idstart d) s = .next t ∧ QuietStep [.fault] s t ∧
      t.fault = recordAfter ⟨.busyViolation, .identify, 0xFF, d⟩ s.fault) ∧
    (s.id.state ≠ .run → 15 < d.toNat → ∃ t, exec (.idstart d) s = .next t ∧ QuietStep [.identify, .fault] s t ∧
      t.id = { s.id with state := .done, level := none, source := 0x1F, code := 0xFF } ∧
      t.fault = recordAfter ⟨.badArgument, .identify, 0xFF, d⟩ s.fault) ∧
    (∀ l : Level, s.id.state ≠ .run → d.toNat = l.val → ∃ t, exec (.idstart d) s = .next t ∧ QuietStep [.identify] s t ∧
      t.id = { s.id with state := .run, level := some l })

/-- The selection step. With an internal source selected it posts its number and its code, formed before its latch is
cleared; identifying ALARM clears the wake flag too. With no candidate it posts SOFT with the level if its soft request is
set, and otherwise NONE with 0xFF and an IDENT-EMPTY fault. With a chain source and CHD low the cycle ends at once with
0xFF and a CHAIN-DATA fault and no output moves; otherwise CHS takes the class, IDG is asserted and the presence phase
begins. -/
def Obligations.SelectionStepPostsOrStartsACycle : Prop :=
  (∀ (l : Level) (n : Nat) (s : State), SelectionWaits s l → Selected s l n → n ≠ 9 → n ≠ 10 →
    ∃ t, exec .selectionStep s = .next t ∧
      MainStep (s.lv.latches &&& ~~~((1#16 <<< n) &&& 0x39FC#16)) [.identify, .wake] s t ∧
      t.id = { s.id with state := .done, level := none, source := byteOf n, code := codeOf s n } ∧
      t.tk.wake = (s.tk.wake && decide (n ≠ 6))) ∧
  (∀ (l : Level) (s : State), SelectionWaits s l → (∀ n, n ≤ 14 → ¬ Behind s l n) →
    (s.lv.soft.getLsbD l.val = true → ∃ t, exec .selectionStep s = .next t ∧ QuietStep [.identify] s t ∧
      t.id = { s.id with state := .done, level := none, source := 0x10, code := byteOf l.val }) ∧
    (s.lv.soft.getLsbD l.val = false → ∃ t, exec .selectionStep s = .next t ∧ QuietStep [.identify, .fault] s t ∧
      t.id = { s.id with state := .done, level := none, source := 0x1F, code := 0xFF } ∧
      t.fault = recordAfter ⟨.identEmpty, .identify, byteOf l.val, 0⟩ s.fault)) ∧
  ∀ (l : Level) (c : ChainClass) (s : State), SelectionWaits s l → Selected s l (chainCodes c).1.toNat →
    ((seenPins s).chdLow = true → ∃ t, exec .selectionStep s = .next t ∧ QuietStep [.identify, .fault] s t ∧
      t.id = { s.id with state := .done, level := none, source := (chainCodes c).1, code := 0xFF } ∧
      t.fault = recordAfter ⟨.chainData, .identify, (chainCodes c).2, 0⟩ s.fault) ∧
    ((seenPins s).chdLow = false → ∃ t, exec .selectionStep s = .next t ∧ QuietStep [.identify] s t ∧
      t.id = { s.id with cycle := some { cls := c, phase := .presence, time := 0, bits := 0 }, idg := true,
                         chs := decide (c = .b) })

/-- The events of the chain line move the cycle from phase to phase and change nothing else but the chain outputs and the level
of CHD that they bring (the model's choice, log entries 4 and 12). The completion step posts the chain source number: with the received code if
the nine bits hold an odd number of ones and the code is 0x01 to 0xFE, otherwise with 0xFF and the fault that R122, R123
or R125 names. -/
def Obligations.ChainCycleRunsToItsResult : Prop :=
  (∀ (s : State) (c : ChainCycle),
    let at_ (phase : ChainPhase) (c' : ChainCycle) : ChainCycle := { c' with phase := phase, time := 0 }
    let rest (phase : ChainPhase) (c' : ChainCycle) : State :=
      { s with id := { s.id with cycle := some (at_ phase c'), idg := false, chs := false, chc := true } }
    let line (low : Bool) : Env := { s.env with pins := { s.env.pins with chdLow := low } }
    (CycleIn s c .presence →
      exec .presence s = .next { s with env := line true, id := { s.id with cycle := some (at_ .release c) } } ∧
      exec .answerWindowTimeout s = .next (rest (.settling .timeout) c)) ∧
    (CycleIn s c .release →
      exec .presenceReleased s = .next { s with env := line false, id := { s.id with cycle := some (at_ .shift c) } } ∧
      exec .presenceStuckTimeout s = .next (rest (.settling .stuck) c)) ∧
    (CycleIn s c .shift → ∀ bits : BitVec 9,
      exec (.identityShiftEnd bits) s = .next (rest (.settling (.shifted bits)) { c with bits := bits }))) ∧
  ∀ (l : Level) (c : ChainCycle) (o : ChainOutcome) (s : State), CycleIn s c (.settling o) → s.id.level = some l →
    ∃ t, exec .chainCycleCompletion s = .next t ∧ QuietStep [.identify, .fault] s t ∧
      t.id = { s.id with state := .done, level := none, cycle := none, source := (chainCodes c.cls).1, code := t.id.code } ∧
      match o with
      | .timeout => t.id.code = 0xFF ∧
          t.fault = recordAfter ⟨.chainTimeout, .identify, (chainCodes c.cls).2, byteOf l.val⟩ s.fault
      | .stuck => t.id.code = 0xFF ∧ t.fault = recordAfter ⟨.chainData, .identify, (chainCodes c.cls).2, 0⟩ s.fault
      | .shifted bits =>
        let code : Byte := bits.extractLsb' 1 8
        if ((List.range 9).countP (fun i => bits.getLsbD i)) % 2 = 1 ∧ 1 ≤ code.toNat ∧ code.toNat ≤ 0xFE then
          t.id.code = code ∧ t.fault = s.fault
        else
          t.id.code = 0xFF ∧ t.fault = recordAfter ⟨.chainData, .identify, (chainCodes c.cls).2, code⟩ s.fault

/-! ### Fault capture (Chapter 7) -/

/-- The faults of one step: a locked record keeps its four fields and its lock, and LOST grows by their number up to 15 (R131);
an unlocked record captures the one with the lowest cause code, the first reported among equals, and counts the others
(R132). -/
def Obligations.OneStepsFaultsAreCapturedTogether : Prop :=
  (∀ (r : FaultRecord) (faults : List FaultReport), r.locked = true → r.lost ≤ 15 →
    captureInto r faults = { r with lost := min 15 (r.lost + faults.length) }) ∧
  ∀ (r : FaultRecord) (before after : List FaultReport) (f : FaultReport), r.locked = false →
    (∀ g ∈ before, causeCode (some f.cause) < causeCode (some g.cause)) →
    (∀ g ∈ after, causeCode (some f.cause) ≤ causeCode (some g.cause)) →
    captureInto r (before ++ f :: after) =
      { cause := some f.cause, origin := some f.origin, detailA := f.detailA, detailB := f.detailB,
        lost := min 15 (before.length + after.length), locked := true }

/-- A read of FLDB returns detail B and unlocks the record, keeping its fields, LOST included; on an unlocked record it changes
nothing. The source FAULT, which has no latch, is then not active. -/
def Obligations.FldbReadUnlocksTheRecord : Prop :=
  ∀ s : State, PortOpen s → ∃ t, exec .fldbRead s = .next t ∧ QuietStep [.dataBus, .fault] s t ∧
    t.port.dataBus = s.fault.detailB ∧ t.fault = { s.fault with locked := false } ∧
    (LevelsLegal s → sourceActive t 14 = false)

/-! ### Timekeeper (Chapter 8) -/

/-- SET-TIME writes the time of day, restarts the second and the adjust second counter and sets TIME-SET; SET-DATE writes the
date and sets DATE-SET; SET-ALARM arms a disarmed alarm and answers ARMED, changing nothing, to an armed one; CLEAR-ALARM
disarms and keeps the fields; SET-ADJUST stores the value and returns the previous one. READ-TIME returns the eight fields in one
step, with OK if both flags are set and NOT-VALID otherwise. -/
def Obligations.ClockCommandsWriteAndReadTheClock : Prop :=
  (∀ s : State, Started 0x40 s → badIndex s (.setTime none) = none →
    ∃ t, exec (.setTime none) s = .next t ∧ Completes .ok Row.zero [.calendar, .counters, .setFlags] s t ∧
      t.tk.cal = { s.tk.cal with hour := argNat s 0, minute := argNat s 1, second := argNat s 2 } ∧
      t.tk.sub = 0 ∧ t.tk.prescaler = 0 ∧ t.tk.interval = 512 ∧ t.tk.adjSecond = 0 ∧ t.tk.timeSet = true ∧
      t.tk.dateSet = s.tk.dateSet) ∧
  (∀ s : State, Started 0x41 s → badIndex s (.setDate none) = none →
    ∃ t, exec (.setDate none) s = .next t ∧ Completes .ok Row.zero [.calendar, .setFlags] s t ∧
      t.tk.cal = { s.tk.cal with year := argNat s 0, month := argNat s 1, day := argNat s 2, weekday := argNat s 3 } ∧
      t.tk.dateSet = true ∧ t.tk.timeSet = s.tk.timeSet) ∧
  (∀ s : State, Started 0x43 s → badIndex s (.setAlarm none) = none →
    (s.tk.alarm.armed = true → ∃ t, exec (.setAlarm none) s = .next t ∧ Completes .armed Row.zero [] s t) ∧
    (s.tk.alarm.armed = false → ∃ t, exec (.setAlarm none) s = .next t ∧ Completes .ok Row.zero [.alarm] s t ∧
      (let field (i : Nat) : Option Nat := if argNat s i = 255 then none else some (argNat s i)
       t.tk.alarm = { hour := field 0, minute := field 1, second := field 2, oneShot := decide (argNat s 3 = 1),
                      armed := true }))) ∧
  (∀ s : State, Started 0x44 s → ∃ t, exec (.clearAlarm none) s = .next t ∧ Completes .ok Row.zero [.alarm] s t ∧
    t.tk.alarm = { s.tk.alarm with armed := false }) ∧
  (∀ s : State, Started 0x46 s → badIndex s (.setAdjust none) = none →
    ∃ t, exec (.setAdjust none) s = .next t ∧ Completes .ok (oneByte s.tk.adjust) [.adjust] s t ∧
      t.tk.adjust = s.mb.work.getD 0 0) ∧
  ∀ s : State, Started 0x42 s → ∃ t, exec .readTime s = .next t ∧
    Completes (if s.tk.timeSet = true ∧ s.tk.dateSet = true then .ok else .notValid)
      #v[byteOf s.tk.cal.second, byteOf s.tk.cal.minute, byteOf s.tk.cal.hour, byteOf s.tk.cal.day,
         byteOf s.tk.cal.month, byteOf s.tk.cal.year, byteOf s.tk.cal.weekday, byteOf s.tk.sub] [] s t

/-- READ-ALARM returns the alarm record, the adjust value and the flags, and changes no state (R147). -/
def Obligations.ReadAlarmReturnsTheSettings : Prop :=
  ∀ s : State, Started 0x45 s → ∃ t, exec .readAlarm s = .next t ∧
    (let field (f : Option Nat) : Byte := match f with | none => 0xFF | some n => byteOf n
     Completes .ok
      #v[field s.tk.alarm.hour, field s.tk.alarm.minute, field s.tk.alarm.second,
         if s.tk.alarm.oneShot then 1 else 0, if s.tk.alarm.armed then 1 else 0, s.tk.adjust,
         (if s.tk.timeSet then 1 else 0) + (if s.tk.dateSet then 2 else 0) + (if s.tk.wake then 4 else 0), 0] [] s t)

/-- Every tick, in every power state but DEAD, advances the sub-second counter modulo 64; a second boundary moves the calendar
one second on and the adjust second counter by one modulo 64; and the next interval is 512 cycles, or 512 less the adjust
value for the last interval of the adjusted second. -/
def Obligations.TickCountsTheClock : Prop :=
  ∀ s : State, TickReady s → CalendarInRange s → adjustGood s.tk.adjust = true →
    ∃ t, exec .timebaseTick s = .next t ∧ t.tk.sub = (s.tk.sub + 1) % 64 ∧ t.tk.prescaler = 0 ∧
      t.tk.adjSecond = (if s.tk.sub = 63 then (s.tk.adjSecond + 1) % 64 else s.tk.adjSecond) ∧
      (if s.tk.sub = 63 then OneSecondLater s.tk.cal t.tk.cal else t.tk.cal = s.tk.cal) ∧
      (t.tk.interval : Int) = (if t.tk.sub = 63 ∧ t.tk.adjSecond = 63 then 512 - s.tk.adjust.toInt else 512) ∧
      t.tk.adjust = s.tk.adjust ∧ t.tk.timeSet = s.tk.timeSet ∧ t.tk.dateSet = s.tk.dateSet

/-- A tick while the main domain runs: DAY-CHANGE, ALARM and TICK are latched by their events and by nothing else, an alarm that
fires disarms if one-shot, the battery is sampled when the carry made the second 0, the countdown and the watchdog count
move by one short of their ends, and nothing else changes. When the tick comes is its sender's affair (log entry 10). -/
def Obligations.TickWhileRunningLatchesItsEvents : Prop :=
  ∀ s : State, Runs s → NotHalted s → CalendarInRange s → s.cfg.tickRate.toNat ≤ 4 →
    ∃ t, exec .timebaseTick s = .next t ∧ EndsStep s t t.lv.latches ∧ ChangesOnly tickParts s t ∧
      (t.lv.latches.getLsbD 8 = true ↔
        s.lv.latches.getLsbD 8 = true ∨ (s.tk.sub = 63 ∧ secondsOfDay s.tk.cal = 86399)) ∧
      (t.lv.latches.getLsbD 6 = true ↔ s.lv.latches.getLsbD 6 = true ∨ AlarmFires s t) ∧
      (t.lv.latches.getLsbD 7 = true ↔ s.lv.latches.getLsbD 7 = true ∨ TickChosen s t) ∧
      (∀ n, n ∈ [3, 4, 5, 11] → t.lv.latches.getLsbD n = s.lv.latches.getLsbD n) ∧
      t.lv.latches.getLsbD 12 = (s.lv.latches.getLsbD 12 || ((seenPins s).vddLow && !s.sup.pwrLow)) ∧
      (t.tk.alarm.armed = true ↔ s.tk.alarm.armed = true ∧ ¬ (AlarmFires s t ∧ s.tk.alarm.oneShot = true)) ∧
      t.tk.alarm = { s.tk.alarm with armed := t.tk.alarm.armed } ∧
      t.sup.batLow = (if s.tk.sub = 63 ∧ t.tk.cal.second = 0 then batterySeenLow s else s.sup.batLow) ∧
      (s.rep = .idle → t.rep = .idle ∧ t.tq = s.tq ∧ t.lv.latches.getLsbD 2 = s.lv.latches.getLsbD 2) ∧
      (∀ phase p r n, s.rep = .armed phase p r (n + 2) →
        t.rep = .armed phase p r (n + 1) ∧ t.tq = s.tq ∧ t.lv.latches.getLsbD 2 = s.lv.latches.getLsbD 2) ∧
      (s.wd.state = .disabled →
        t.wd = s.wd ∧ t.sup.request = none ∧ t.lv.latches.getLsbD 13 = s.lv.latches.getLsbD 13) ∧
      (s.wd.state ≠ .disabled → s.wd.count + 1 < 32 * 2 ^ s.wd.active.toNat →
        t.wd = { s.wd with count := s.wd.count + 1 } ∧ t.sup.request = none ∧
          t.lv.latches.getLsbD 13 = s.lv.latches.getLsbD 13) ∧
      t.sup.stretchTicks = (if s.sup.phase = .stretch then s.sup.stretchTicks + 1 else s.sup.stretchTicks)

/-- A tick while the main domain does not run does only the battery domain's part: an alarm that fires sets the wake flag, and
the clock, its alarm and its wake flag are all that changes. That the main domain does not run either while a reset request
or a cut of its own waits to be taken is the model's choice (log entry 9), and that such a tick makes no end of a step is
deduced (log entry 12). -/
def Obligations.TickWhileHeldKeepsTheMainDomain : Prop :=
  ∀ s : State, ¬ Runs s → TickReady s → CalendarInRange s →
    ∃ t, exec .timebaseTick s = .next t ∧ ReadsPins s t ∧ ChangesOnly [.calendar, .counters, .alarm, .wake] s t ∧
      t.lv = s.lv ∧ t.sup = s.sup ∧
      (t.tk.wake = true ↔ s.tk.wake = true ∨ AlarmFires s t) ∧
      (t.tk.alarm.armed = true ↔ s.tk.alarm.armed = true ∧ ¬ (AlarmFires s t ∧ s.tk.alarm.oneShot = true)) ∧
      t.tk.alarm = { s.tk.alarm with armed := t.tk.alarm.armed }

/-- A halt detection outside part 1 of a full reset reports CLOCK-HALT with the frozen second and sub-second counter and clears
TIME-SET and DATE-SET. One that was ready is taken with the detector as it stands; with none ready the detector enters HALTED
with it, and no scan pass is ready then (DEDUCED, log entry 28). In HALTED nothing is detected. With a reset request of this
LSI itself ready, the detection waits behind it (R7, R154). In part 1 it is only recorded for the sequence. An oscillator
cycle returns the detector to WATCHING with the count 0 and leaves a ready detection ready. That a detection sent in WATCHING
is taken whatever the count is the model's choice (log entry 10), and that recording it and an oscillator cycle sample no
inputs and evaluate no levels is deduced (log entry 12). -/
def Obligations.HaltDetectionReportsAndResumes : Prop :=
  (∀ s : State, Runs s → NotHalted s ∨ s.sup.haltReady = true →
    ∃ t, exec .haltDetection s = .next t ∧ QuietStep [.halt, .setFlags, .fault, .scanTimer] s t ∧
      (s.sup.haltReady = true → t.scan = s.scan ∧ t.sup.detector = s.sup.detector) ∧
      (s.sup.haltReady = false → t.scan = { s.scan with ready := false } ∧ t.sup.detector = .halted) ∧
      t.sup.haltReady = false ∧
      t.sup.oscSeen = s.sup.oscSeen ∧ t.sup.oscHalt = s.sup.oscHalt ∧ t.tk.timeSet = false ∧ t.tk.dateSet = false ∧
      t.fault = recordAfter ⟨.clockHalt, .timekeeper, byteOf s.tk.cal.second, byteOf s.tk.sub⟩ s.fault) ∧
  (∀ s : State, s.sup.power = .mainOn → s.sup.phase ≠ .held → s.sup.cutShort = false → s.sup.request ≠ none →
    exec .haltDetection s = .next (if s.sup.haltReady = true ∨ s.sup.detector = .halted then s else
      { s with scan := { s.scan with ready := false }, sup := { s.sup with detector := .halted, haltReady := true } })) ∧
  (∀ s : State, s.sup.power = .mainOn → s.sup.phase = .held → NotHalted s → s.sup.cutShort = false →
    exec .haltDetection s = .next { s with
      scan := { s.scan with ready := false }
      sup := { s.sup with detector := .halted, oscHalt := some (byteOf s.tk.cal.second, byteOf s.tk.sub) } }) ∧
  (∀ s : State,
    s.sup.power ≠ .mainOn ∨ s.sup.cutShort = true ∨ (s.sup.detector = .halted ∧ s.sup.haltReady = false) →
    exec .haltDetection s = .next s) ∧
  ∀ s : State, s.sup.power = .mainOn →
    exec .oscillatorResume s = .next { s with sup := { s.sup with detector := .watching 0, oscSeen := true } }

/-! ### Backup memory (Chapter 9) -/

/-- BACKUP-READ returns the bytes named; READ-RESET-RECORD returns bytes 58 to 62; BACKUP-WRITE writes its bytes in the host
area, CLEAR-RESET-RECORD zeros in the counts, and each leaves the memory consistent and every other byte but the checksum
as it was. -/
def Obligations.BackupCommandsReadAndWriteTheMemory : Prop :=
  (∀ s : State, Started 0x50 s → badIndex s .backupRead = none →
    ∃ t, exec .backupRead s = .next t ∧ Completes .ok t.mb.res [] s t ∧
      ∀ i : Fin 8, t.mb.res[i] = if i.val < argNat s 1 then memByte s.mem (argNat s 0 + i.val) else 0) ∧
  (∀ s : State, Started 0x52 s → ∃ t, exec .readResetRecord s = .next t ∧
    Completes .ok #v[memByte s.mem 58, memByte s.mem 59, memByte s.mem 60, memByte s.mem 61, memByte s.mem 62, 0, 0, 0]
      [] s t) ∧
  (∀ s : State, TablesCanonical s → Started 0x51 s → badIndex s (.backupWrite none) = none →
    ∃ t, exec (.backupWrite none) s = .next t ∧ Completes .ok Row.zero [.memory] s t ∧ memConsistent t.mem = true ∧
      (∀ i, i < argNat s 1 → memByte t.mem (argNat s 0 + i) = s.mb.work.getD (i + 2) 0) ∧
      OnlyWrites (63 :: (List.range (argNat s 1)).map (fun i => argNat s 0 + i)) s t) ∧
  ∀ s : State, TablesCanonical s → Started 0x53 s →
    ∃ t, exec (.clearResetRecord none) s = .next t ∧ Completes .ok Row.zero [.memory] s t ∧ memConsistent t.mem = true ∧
      memByte t.mem 60 = 0 ∧ memByte t.mem 61 = 0 ∧ memByte t.mem 62 = 0 ∧ OnlyWrites [60, 61, 62, 63] s t

/-- SAVE-CONFIG writes the configuration into the image and leaves the memory consistent; LOAD-CONFIG loads each item of the
image in range, gives every other item its factory default, and returns the numbers of repairs. -/
def Obligations.SaveAndLoadConfigMoveTheImage : Prop :=
  (∀ s : State, TablesCanonical s → Started 0x62 s →
    ∃ t, exec (.saveConfig none) s = .next t ∧ Completes .ok Row.zero [.memory] s t ∧ memConsistent t.mem = true ∧
      (∀ id, 1 ≤ id → id ≤ 12 → memByte t.mem (33 + id) = fieldGet s.cfg id) ∧
      (∀ i : Fin 4, memByte t.mem (46 + 3 * i.val) = requirementsByte s.cfg.chords[i] ∧
        memByte t.mem (47 + 3 * i.val) = byteOf s.cfg.chords[i].position.val ∧
        memByte t.mem (48 + 3 * i.val) =
          (if s.cfg.chords[i].enabled then 0x80 else 0) + actionCode s.cfg.chords[i].action) ∧
      ∀ a, a < 34 ∨ (58 ≤ a ∧ a ≠ 63) → memByte t.mem a = memByte s.mem a) ∧
  ∀ s : State, Started 0x63 s →
    ∃ t, exec .loadConfig s = .next t ∧ Completes .ok t.mb.res [.config] s t ∧
      (∀ id, 1 ≤ id → id ≤ 12 → fieldGet t.cfg id =
        if fieldInRange id (memByte s.mem (33 + id)) then memByte s.mem (33 + id) else fieldDefault id) ∧
      (∀ i : Fin 4, t.cfg.chords[i] =
        if chordInRange s.mem i.val then
          chordOf (memByte s.mem (46 + 3 * i.val)) (memByte s.mem (47 + 3 * i.val)) (memByte s.mem (48 + 3 * i.val))
            ((memByte s.mem (48 + 3 * i.val)).getLsbD 7)
        else {}) ∧
      t.mb.res = twoBytes
        (byteOf ((List.range 12).countP (fun i => !fieldInRange (i + 1) (memByte s.mem (34 + i)))))
        (byteOf ((List.range 4).countP (fun i => !chordInRange s.mem i)))

/-- A LOAD-CONFIG of the image that a SAVE-CONFIG left restores exactly the configuration that was saved and repairs nothing,
whatever else has changed between. -/
def Obligations.LoadAfterSaveRestoresTheConfiguration : Prop :=
  ∀ s t u : State, TablesCanonical s → ConfigInRange s → Started 0x62 s → exec (.saveConfig none) s = .next t →
    u.mem = t.mem → Started 0x63 u →
    ∃ v, exec .loadConfig u = .next v ∧ v.cfg = s.cfg ∧ v.mb.res = Row.zero ∧ v.mb.result = .ok

/-! ### Watchdog (Chapter 10) -/

/-- WATCHDOG-SET by state and enable: it enables from DISABLED, sets the pending period, and is refused with LOCKED when it
would disable; RES0 and RES1 tell the state and the pending period after it. A kick restarts an enabled watchdog with the
pending period and leaves a DISABLED one alone. -/
def Obligations.WatchdogSetAndKick : Prop :=
  (∀ s : State, Started 0x70 s → badIndex s .watchdogSet = none →
    ∃ t, exec .watchdogSet s = .next t ∧
      (let code : BitVec 2 := BitVec.ofNat 2 (argNat s 0)
       let locked := s.wd.state ≠ .disabled ∧ argNat s 1 = 0
       Completes (if locked then .locked else .ok)
         (twoBytes (match t.wd.state with | .disabled => 0 | .armed => 1 | .warned => 2) (byteOf t.wd.pending.toNat))
         [.watchdog] s t ∧
       t.wd = (if locked then s.wd
         else if s.wd.state = .disabled ∧ argNat s 1 = 1 then
           { state := .armed, count := 0, active := code, pending := code }
         else { s.wd with pending := code }))) ∧
  ∀ (d : Byte) (s : State), PortOpen s → ∃ t, exec (.wdkick d) s = .next t ∧ QuietStep [.watchdog] s t ∧
    t.wd = if s.wd.state = .disabled then s.wd
      else { state := .armed, count := 0, active := s.wd.pending, pending := s.wd.pending }

/-- The tick that brings the count to the active period: in ARMED it sets the WATCHDOG latch, goes to WARNED and restarts the
count with the pending period; in WARNED it requests a host-side reset with reason WATCHDOG and leaves the watchdog as it
is, the count too, which so does not advance (DEDUCED, log entry 15). -/
def Obligations.WatchdogExpiriesWarnAndReset : Prop :=
  ∀ s : State, Runs s → NotHalted s → 32 * 2 ^ s.wd.active.toNat ≤ s.wd.count + 1 →
    (s.wd.state = .armed → ∃ t, exec .firstExpiry s = .next t ∧ exec .timebaseTick s = .next t ∧
      t.wd = { state := .warned, count := 0, active := s.wd.pending, pending := s.wd.pending } ∧
      t.lv.latches.getLsbD 13 = true ∧ t.sup.request = none ∧
      EndsStep s t t.lv.latches ∧ ChangesOnly tickParts s t) ∧
    (s.wd.state = .warned → ∃ t, exec .secondExpiry s = .next t ∧ exec .timebaseTick s = .next t ∧
      t.wd = s.wd ∧ t.sup.request = some .watchdog ∧ EndsStep s t t.lv.latches ∧ ChangesOnly tickParts s t)

/-! ### Power states and resets (Chapter 10) -/

/-- RESET-DEVICE only requests a full reset with reason SOFT and never completes; that request, nRESET driven low, and a return
to MAIN-ON each run part 1 of a full reset with the reason of R176, the lower code where requests merge: nRESET with a
request of this LSI itself or with the reset in progress, a return to MAIN-ON with the reset that a brown-out interrupted.
That the oscillator check starts afresh at such a return, without a halt that the interrupted part 1 had found, is the
model's choice (log entry 30). An NRESET that arrives while a host-side reset waits to be taken gives one full reset with reason PIN, after which the
host-side one has no effect (the queue is the model's, log entry 13). -/
def Obligations.FullResetBeginsWithPartOne : Prop :=
  (∀ s : State, Started 0x02 s → ∃ t, exec .resetDevice s = .next t ∧ QuietStep [.request] s t ∧
    t.sup.request = some .soft) ∧
  (∀ s : State, s.sup.power = .mainOn → s.sup.phase ≠ .held → s.sup.request = some .soft → s.sup.cutShort = false →
    ∃ t, exec .softFullReset s = .next t ∧ PartOne .soft s t) ∧
  (∀ s : State, RequestLegal s → s.sup.power = .mainOn → s.sup.phase ≠ .held →
    ∃ t, exec .nreset s = .next t ∧ PartOne .pin s t) ∧
  (∀ (r : ResetReason) (s : State), s.sup.power = .mainOn → s.sup.phase = .held → s.sup.request = none →
    s.sup.reason = some r →
    ∃ t, exec .nreset s = .next t ∧ ReadsPins s t ∧ ChangesOnly [.power] s t ∧ t.sup.power = .mainOn ∧
      t.sup.phase = .held ∧ t.sup.reason = some (if (reasonCode r).toNat ≤ 4 then r else .pin)) ∧
  (∀ s : State, s.sup.power = .brownOut ∨ s.sup.power = .batteryOnly → s.sup.phase = .held → s.sup.request = none →
    (let reason : ResetReason := if s.sup.coldMarker then .cold
        else if s.sup.vddLost = true ∨ s.sup.power = .batteryOnly then .powerOn else .brownOut
     (s.sup.reason = none → ∃ t, exec .returnToMainOn s = .next t ∧ PartOne reason s t) ∧
     ∀ r, s.sup.reason = some r →
       ∃ t, exec .returnToMainOn s = .next t ∧
         PartOne (if (reasonCode r).toNat < (reasonCode reason).toNat then r else reason) s t)) ∧
  ∀ (cut : Option Nat) (r : ResetReason) (s : State), s.pending = [.hostSideReset cut] → s.sup.power = .mainOn →
    s.sup.phase ≠ .held → s.sup.cutShort = false → s.sup.request = some r → (r = .watchdog ∨ r = .chord) →
    ∃ t, step (State.submit .nreset s) = .next t ∧ PartOne .pin s t ∧ step t = .next { t with pending := [] }

/-- The changes of power state (R174): BROWN-OUT holds the main domain in reset and keeps the fault record; VDD absent leaves
BATTERY-ONLY or DEAD; a start from DEAD gives the battery domain the values of R157 with arbitrary memory; VBAT changes no
power state while VDD is present. That VDD has been absent is forgotten on the entry to BROWN-OUT from MAIN-ON and recorded
when VDD is lost and when it comes back below the brown-out level; the reason of a full reset in progress stays through a
brown-out, to be merged, and is forgotten when VDD is lost. That the blocks take their reset values at once in BROWN-OUT and
keep their fields unpowered is deduced (log entry 16), as it is that VBAT events with VDD present are no steps (log entry
12). The outputs follow the power state: while the main domain is held in reset the lamps are unlit and the chain outputs at
rest, and in BATTERY-ONLY and DEAD it drives none of its outputs (R46, R127, R179). -/
def Obligations.PowerStatesChangeAsTheTableSays : Prop :=
  (∀ s : State, s.sup.power = .mainOn →
    ∃ t, exec .brownOutEntry s = .next t ∧ t.sup.power = .brownOut ∧ t.sup.phase = .held ∧ BlocksReset t ∧
      t.lv.latches = 0 ∧ t.lv.nint = false ∧ ReadsPins s t ∧ t.fault = s.fault ∧ t.sup.vddLost = false ∧
      t.sup.reason = (if s.sup.phase = .held then s.sup.reason else none) ∧ t.sup.haltReady = false ∧
      ChangesOnly partOneParts s t) ∧
  (∀ s : State, s.sup.power = .brownOut →
    ∃ t, exec .vddLoss s = .next t ∧ ReadsPins s t ∧ ChangesOnly [.power] s t ∧
      t.sup.power = (if (seenPins s).vbatPresent then .batteryOnly else .dead) ∧
      t.sup.phase = s.sup.phase ∧ t.sup.reason = none ∧ t.sup.vddLost = true) ∧
  (∀ s : State, s.sup.power = .batteryOnly →
    (∃ t, exec .vddBelowBrownOutLevel s = .next t ∧ ReadsPins s t ∧ ChangesOnly [.power] s t ∧
      t.sup.power = .brownOut ∧ t.sup.phase = .held ∧ t.sup.reason = s.sup.reason ∧ t.sup.vddLost = true) ∧
    ∃ t, exec .vbatLoss s = .next t ∧ ChangesOnly [.power] s t ∧ t.sup.power = .dead ∧
      t.sup.phase = s.sup.phase ∧ t.sup.reason = s.sup.reason ∧ t.sup.vddLost = s.sup.vddLost) ∧
  (∀ s : State, s.sup.power = .dead →
    (∃ t, exec .vddBelowBrownOutLevel s = .next t ∧ BatteryStarts s t ∧ t.sup.power = .brownOut ∧ t.sup.phase = .held ∧
      t.sup.reason = s.sup.reason ∧ t.sup.vddLost = true ∧
      ChangesOnly [.power, .calendar, .counters, .adjust, .alarm, .setFlags, .wake, .memory, .starts, .coldMarker] s t) ∧
    ∃ t, exec .vbatPresent s = .next t ∧ BatteryStarts s t ∧ t.sup.power = .batteryOnly ∧
      t.sup.phase = s.sup.phase ∧ t.sup.reason = s.sup.reason ∧ t.sup.vddLost = s.sup.vddLost ∧
      ChangesOnly [.power, .calendar, .counters, .adjust, .alarm, .setFlags, .wake, .memory, .starts, .coldMarker] s t) ∧
  (∀ s : State,
    (s.sup.phase = .held ∨ s.sup.power ≠ .mainOn → lampOutputs s = 0) ∧
    ((s.sup.power = .mainOn ∧ s.sup.phase = .held) ∨ s.sup.power = .brownOut →
      chainOutputs s = some { idg := false, chs := false, chc := true }) ∧
    (s.sup.power = .batteryOnly ∨ s.sup.power = .dead → chainOutputs s = none ∧ hostResetAsserted s = false) ∧
    (s.sup.power = .mainOn → s.sup.phase ≠ .held →
      chainOutputs s = some { idg := s.id.idg, chs := s.id.chs, chc := s.id.chc })) ∧
  ∀ s : State,
    (s.sup.power ≠ .batteryOnly → exec .vbatLoss s = .next { s with
      env := { s.env with pins := { s.env.pins with vbatPresent := false } } }) ∧
    (s.sup.power ≠ .dead → exec .vbatPresent s = .next { s with
      env := { s.env with pins := { s.env.pins with vbatPresent := true } } })

/-- Parts 2 to 7 of a full reset, which wait for the outcome of the oscillator check and until nRESET is high. A memory found
invalid is rewritten with zeros and the factory image, a valid one keeps its bytes; the configuration is loaded from the memory then standing, the built-in layout written; the reset record takes the
reason and its count; the wake flag is transferred into the ALARM latch; TIME-SET and DATE-SET are cleared if the oscillator
check found a halt; the sequence's faults are captured, and nHRST stays asserted for the stretch. -/
def Obligations.FullResetSequenceRestoresAndRecords : Prop :=
  (∀ (cut : Option Nat) (s : State),
    (s.sup.oscSeen = false ∧ s.sup.oscHalt = none) ∨ (seenPins s).nresetLow = true ∨ s.sup.power ≠ .mainOn →
    exec (.fullResetSequence cut) s = .next s) ∧
  ∀ (r : ResetReason) (s : State), TablesCanonical s → SequenceWaits r s →
    ∃ t, exec (.fullResetSequence none) s = .next t ∧
      (¬ Invalid r s → (∀ a, a < 58 → memByte t.mem a = memByte s.mem a) ∧ RecordUpdated r (memByte s.mem) t) ∧
      (Invalid r s →
        (∀ a, a < 34 → memByte t.mem a = 0) ∧
        ([0, 1, 2, 3, 4, 5, 6, 7, 8, 9, 10, 11].map (fun i => memByte t.mem (34 + i)) =
          [1, 2, 16, 1, 4, 8, 24, 0, 1, 0, 0, 0]) ∧
        (∀ a, 46 ≤ a → a < 58 → memByte t.mem a = 0) ∧ RecordUpdated r (fun _ => 0) t) ∧
      (t.sup.defaults = true ↔ Invalid r s) ∧ t.sup.batLow = batterySeenLow s ∧ t.sup.coldMarker = false ∧
      EndsStep s t (s.lv.latches ||| (if s.tk.wake then 0x0040#16 else 0)) ∧
      ChangesOnly [.latches, .config, .classes, .entries, .memory, .fault, .setFlags, .power, .request, .stretch, .batLow,
        .defaults, .coldMarker] s t ∧
      t.cfg = loadedConfig t.mem ∧ t.tr.classes = [] ∧ t.tr.entries = [] ∧
      t.sup.power = .mainOn ∧ t.sup.phase = .stretch ∧ t.sup.reason = some r ∧ t.sup.request = none ∧
      t.sup.stretchTicks = 0 ∧ t.sup.stretchClks = 0 ∧
      (s.sup.oscHalt = none → t.tk.timeSet = s.tk.timeSet ∧ t.tk.dateSet = s.tk.dateSet) ∧
      (s.sup.oscHalt ≠ none → t.tk.timeSet = false ∧ t.tk.dateSet = false) ∧
      (s.fault.locked = false →
        (Invalid r s →
          t.fault = { cause := some .backupInvalid, origin := some .backup, detailA := memSum s.mem 64,
                      detailB := if batterySeenLow s then 1 else 0, lost := if s.sup.oscHalt = none then 0 else 1,
                      locked := true }) ∧
        (¬ Invalid r s → ∀ a b, s.sup.oscHalt = some (a, b) →
          t.fault = recordAfter ⟨.clockHalt, .timekeeper, a, b⟩ s.fault) ∧
        (¬ Invalid r s → s.sup.oscHalt = none → t.fault = s.fault))

/-- A host-side reset puts every block at its reset values, loads the configuration without validating, updates the reset
record, transfers the wake flag, and preserves the class table, the translation memory, the fault record, DEFAULTS, BATLOW,
the halt detector and a ready halt detection, which is taken after it (R154). -/
def Obligations.HostSideResetPreservesTablesAndFault : Prop :=
  ∀ (r : ResetReason) (s : State), TablesCanonical s → s.sup.power = .mainOn → s.sup.phase ≠ .held →
    s.sup.cutShort = false → s.sup.request = some r → (r = .watchdog ∨ r = .chord) →
    ∃ t, exec (.hostSideReset none) s = .next t ∧ BlocksReset t ∧
      t.lv.latches = (if s.tk.wake then 0x0040#16 else 0) ∧ t.lv.nint = false ∧
      t.sup.pwrLow = (seenPins s).vddLow ∧
      t.fault = s.fault ∧ t.sup.detector = s.sup.detector ∧ t.sup.haltReady = s.sup.haltReady ∧ t.cfg = loadedConfig s.mem ∧
      RecordUpdated r (memByte s.mem) t ∧ (∀ a, a < 58 → memByte t.mem a = memByte s.mem a) ∧
      t.sup.power = .mainOn ∧ t.sup.phase = .stretch ∧ t.sup.reason = some r ∧ t.sup.request = none ∧
      ReadsPins s t ∧ ChangesOnly (.config :: .memory :: partOneParts) s t

/-- The release of nHRST is a step of its own, taken when the stretch has ended (at once for PIN) and not before: the port
opens, scanning starts with its timer at 0, and nINT is set from the state then standing; a locked fault record makes level
15 eligible at that moment. nHRST is asserted through BROWN-OUT and in MAIN-ON until that release, and not after it (R179,
R180). -/
def Obligations.HostResetReleaseOpensThePort : Prop :=
  (∀ s : State, hostResetAsserted s = true ↔
    s.sup.power = .brownOut ∨ (s.sup.power = .mainOn ∧ (s.sup.phase = .held ∨ s.sup.phase = .stretch))) ∧
  ∀ s : State, PortClosed s →
    (¬ StretchOver s → exec .nhrstRelease s = .next s) ∧
    (StretchOver s → ∃ t, exec .nhrstRelease s = .next t ∧ PortOpen t ∧ hostResetAsserted t = false ∧
      QuietStep [.power, .stretch, .scanTimer] s t ∧ t.sup.power = .mainOn ∧ t.sup.reason = s.sup.reason ∧
      t.scan.timer = 0 ∧ t.scan.ready = false ∧
      t.scan.interval = (match s.cfg.scanPeriod.toNat with | 0 => 128 | 1 => 256 | _ => 512) ∧
      (s.fault.locked = true → s.lv.enables.getLsbD 15 = true → s.lv.stack = [] → t.lv.nint = true))

/-- A step cut short (R7, R168, R177; log entry 5). A command that writes the memory, cut after `k` of its bytes, has written
those and no other, has posted nothing and leaves its mailbox as it was; a timekeeper command has made all of its changes or
none. A reset sequence cut by a loss of VDD has written those bytes and no other, has cleared the cold marker only after the
last byte and, if the oscillator check found a halt, TIME-SET and DATE-SET only after that, and leaves the main domain held
for the loss that follows. -/
def Obligations.CutStepsLeaveAPrefix : Prop :=
  (∀ (k : Nat) (s : State), Started 0x51 s →
    ∃ t, exec (.backupWrite (some k)) s = .next t ∧ QuietStep [.memory, .cut] s t ∧ t.sup.cutShort = true ∧
      t.mem = if badIndex s (.backupWrite none) = none then
        memWrites s.mem ((withChecksum s.mem (hostBytes s.mb.work)).take k) else s.mem) ∧
  (∀ (k : Nat) (s : State), Started 0x53 s →
    ∃ t, exec (.clearResetRecord (some k)) s = .next t ∧ QuietStep [.memory, .cut] s t ∧ t.sup.cutShort = true ∧
      t.mem = memWrites s.mem ((withChecksum s.mem [(60, 0), (61, 0), (62, 0)]).take k)) ∧
  (∀ (k : Nat) (s : State), Started 0x62 s →
    ∃ t, exec (.saveConfig (some k)) s = .next t ∧ QuietStep [.memory, .cut] s t ∧ t.sup.cutShort = true ∧
      t.mem = memWrites s.mem ((withChecksum s.mem (imageBytes s.cfg)).take k)) ∧
  (∀ (k : Nat) (s u : State) (p : Byte × (Option Nat → Instr)),
    p ∈ [(0x40, Instr.setTime), (0x41, .setDate), (0x43, .setAlarm), (0x44, .clearAlarm), (0x46, .setAdjust)] →
    Started p.1 s → exec (p.2 none) s = .next u →
    ∃ t, exec (p.2 (some k)) s = .next t ∧ t.mb = s.mb ∧ t.sup.cutShort = true ∧
      QuietStep [.calendar, .counters, .adjust, .alarm, .setFlags, .cut] s t ∧
      (if k = 0 then t.tk = s.tk else t.tk = u.tk)) ∧
  (∀ (k : Nat) (r : ResetReason) (s : State), SequenceWaits r s →
    ∃ t, exec (.fullResetSequence (some k)) s = .next t ∧ t.sup.cutShort = true ∧ t.sup.phase = .held ∧
      (let writes := fullResetWrites r (batterySeenLow s) s.mem
       t.mem = memWrites s.mem (writes.take k) ∧
       t.sup.coldMarker = (s.sup.coldMarker && decide (k ≤ writes.length)) ∧
       (s.sup.oscHalt ≠ none → writes.length + 2 ≤ k → t.tk.timeSet = false ∧ t.tk.dateSet = false) ∧
       (s.sup.oscHalt = none ∨ k < writes.length + 2 →
         t.tk.timeSet = s.tk.timeSet ∧ t.tk.dateSet = s.tk.dateSet)) ∧
      ChangesOnly [.memory, .coldMarker, .setFlags, .power, .request, .cut] s t) ∧
  ∀ (k : Nat) (r : ResetReason) (s : State), s.sup.power = .mainOn → s.sup.phase ≠ .held → s.sup.cutShort = false →
    s.sup.request = some r → (r = .watchdog ∨ r = .chord) →
    ∃ t, exec (.hostSideReset (some k)) s = .next t ∧ t.sup.cutShort = true ∧ t.sup.phase = .held ∧
      t.mem = memWrites s.mem ((recordWrites r s.mem).take k) ∧ ChangesOnly (.memory :: partOneParts) s t

/-! ### What every step keeps -/

/-- Every step keeps the blocks legal: the service stack strictly increasing from bottom to top (R103), latches only for the
ten latched sources and level 15 enabled (R90, R98), at most 32 records (R72), a running code exactly while BUSY (R9),
LOST at most 15 (R128), a chain cycle only in RUN and a requested level in RUN (R114, R121), every calendar field in its
range (R141), every configuration field (R18, R161) and the adjust value (R152) in its range, no reset request of this LSI
itself but for the three reasons of R181, and the halt detector legal: a count below 8192 (R153), and a ready halt detection
only while MAIN-ON and outside part 1 of a full reset (R155). -/
def Obligations.EveryStepKeepsTheBlocksLegal : Prop := KeptByEveryStep BlocksLegal

/-- Every step keeps the memory and the tables in their canonical form and at most eight keys tracked. -/
def Obligations.EveryStepKeepsTheTablesCanonical : Prop :=
  KeptByEveryStep (fun s => TablesCanonical s ∧ RolloverBounded s)

/-- After every step, while the main domain runs, a set wake flag is accompanied by a set ALARM latch; and nINT is asserted
exactly while a level is eligible and neither the main domain is held in reset nor nHRST asserted. nWAKE is driven low
exactly while the wake flag is set, in every power state except DEAD (R149). -/
def Obligations.EveryStepKeepsWakeAndInterruptRight : Prop :=
  KeptByEveryStep WakeLatched ∧ KeptByEveryStep InterruptFollows ∧
  (∀ s : State, InterruptFollows s ↔
    (s.lv.nint = true ↔ s.sup.power = .mainOn ∧ s.sup.phase = .run ∧ ∃ l, eligible s l = true)) ∧
  ∀ s : State, wakeOutput s = true ↔ s.tk.wake = true ∧ s.sup.power ≠ .dead

/-- What only the named commands can do: unlock a locked fault record (a read of FLDB, or the start of a full reset), write the
backup memory (its five writers, and a start from DEAD), return an enabled watchdog to DISABLED (a reset of the main
domain), assert nHRST (the beginning of a reset, or of BROWN-OUT), and end its assertion (its release; a loss of VDD, after
which it is not driven). -/
def Obligations.ProtectedStateYieldsOnlyToItsCommands : Prop :=
  ∀ (c : Instr) (s t : State), exec c s = .next t →
    (s.fault.locked = true → t.fault.locked = false →
      c = .fldbRead ∨ c = .lowByteRead 0x3E#6 ∨ c = .nreset ∨ c = .softFullReset ∨ c = .returnToMainOn) ∧
    (t.mem ≠ s.mem →
      (∃ k, c = .backupWrite k ∨ c = .clearResetRecord k ∨ c = .saveConfig k ∨ c = .fullResetSequence k ∨
        c = .hostSideReset k) ∨ (s.sup.power = .dead ∧ (c = .vddBelowBrownOutLevel ∨ c = .vbatPresent))) ∧
    (s.wd.state ≠ .disabled → t.wd.state = .disabled →
      c = .nreset ∨ c = .softFullReset ∨ c = .returnToMainOn ∨ c = .brownOutEntry ∨ ∃ k, c = .hostSideReset k) ∧
    (hostResetAsserted s = false → hostResetAsserted t = true →
      c = .nreset ∨ c = .softFullReset ∨ c = .returnToMainOn ∨ c = .brownOutEntry ∨ c = .vddBelowBrownOutLevel ∨
        ∃ k, c = .hostSideReset k) ∧
    (hostResetAsserted s = true → hostResetAsserted t = false → c = .nhrstRelease ∨ c = .vddLoss)

/-! ### The passing of time (sections 2.3, 6.6, 8.2, 8.10, 10.6) -/

/-- When nothing is ready on an empty queue one CLK period passes (`ClkPasses`): the counters count and nothing else changes.
A tick is ready when the prescaler has counted its interval, a scan pass when the scan timer has counted its period, a halt
detection once the detector has entered HALTED after 8192 CLK periods without an oscillator cycle, even if a cycle has come
since, the release of nHRST when its stretch has ended, and the
chain events at the line's change or at the ends of the answer window, of the wait for release, of the shift and of the
settling interval: 64, 64, 2 and 9, and 4 CHC periods of 32 CLK periods. A started mailbox command, of a listed code or not,
a selection step, a reset request of this LSI itself, and the step of parts 2 to 7 of a full reset are ready as R10, R12,
R114, R155, R177 and R181 say, the last never while nRESET is low. That time passes on an empty queue only is the
model's choice (log entries 9 and 10). -/
def Obligations.CountersBringTheNextStep : Prop :=
  (∀ s : State, ClkPasses s (clkPeriod s)) ∧
  (∀ s : State, .timebaseTick ∈ readySteps s ↔ TickReady s ∧ s.tk.interval ≤ s.tk.prescaler) ∧
  (∀ (seen : BitVec 128) (s : State),
    .scanPass seen ∈ readySteps s ↔ PassReady s ∧ s.scan.ready = true ∧ seen = (seenPins s).matrix) ∧
  (∀ s : State, RequestLegal s → .haltDetection ∈ readySteps s → Runs s ∧ s.sup.haltReady = true) ∧
  (∀ s : State, Runs s → s.sup.haltReady = true → ¬ (PortClosed s ∧ StretchOver s) → .haltDetection ∈ readySteps s) ∧
  (∀ s : State, .nhrstRelease ∈ readySteps s ↔ PortClosed s ∧ StretchOver s) ∧
  (∀ (s : State) (c : ChainCycle),
    (CycleIn s c .presence →
      (.presence ∈ readySteps s ↔ s.env.pins.chdLow = true) ∧
      (.answerWindowTimeout ∈ readySteps s ↔ s.env.pins.chdLow = false ∧ 64 * 32 ≤ c.time)) ∧
    (CycleIn s c .release →
      (.presenceReleased ∈ readySteps s ↔ s.env.pins.chdLow = false) ∧
      (.presenceStuckTimeout ∈ readySteps s ↔ s.env.pins.chdLow = true ∧ 64 * 32 ≤ c.time)) ∧
    (CycleIn s c .shift → ∀ bits, .identityShiftEnd bits ∈ readySteps s ↔ bits = c.bits ∧ (2 + 9) * 32 ≤ c.time) ∧
    ∀ o, CycleIn s c (.settling o) → (.chainCycleCompletion ∈ readySteps s ↔ 4 * 32 ≤ c.time)) ∧
  (∀ (code : Byte) (s : State), Started code s →
    (∀ c, CommandCode code c → c ∈ readySteps s) ∧
    ((∀ c, ¬ CommandCode code c) → .badCommand ∈ readySteps s)) ∧
  (∀ (l : Level) (s : State), SelectionWaits s l → .selectionStep ∈ readySteps s) ∧
  (∀ s : State, s.sup.power = .mainOn → s.sup.phase ≠ .held → s.sup.cutShort = false →
    (s.sup.request = some .soft → .softFullReset ∈ readySteps s) ∧
    (s.sup.request = some .watchdog ∨ s.sup.request = some .chord → .hostSideReset none ∈ readySteps s)) ∧
  ∀ s : State,
    (∀ r, SequenceWaits r s → s.sup.request = none → .fullResetSequence none ∈ readySteps s) ∧
    ∀ cut, .fullResetSequence cut ∈ readySteps s →
      cut = none ∧ s.sup.power = .mainOn ∧ s.sup.phase = .held ∧ (seenPins s).nresetLow = false ∧
        (s.sup.oscSeen = true ∨ s.sup.oscHalt ≠ none)
end

