-- ==== Sys2Proof/Laws/State.lean ====
section
/-!
SUPPORT. Laws/State.lean: what each update shared by the meanings does to each field of State, one lemma a field, all true
by definition.
-/

namespace Sys2Proof.Machine

/-! ### setLatch -/

@[simp] theorem setLatch_pending (l : Latch) (s : State) : (setLatch l s).pending = s.pending := rfl
@[simp] theorem setLatch_env (l : Latch) (s : State) : (setLatch l s).env = s.env := rfl
@[simp] theorem setLatch_port (l : Latch) (s : State) : (setLatch l s).port = s.port := rfl
@[simp] theorem setLatch_mb (l : Latch) (s : State) : (setLatch l s).mb = s.mb := rfl
@[simp] theorem setLatch_cfg (l : Latch) (s : State) : (setLatch l s).cfg = s.cfg := rfl
@[simp] theorem setLatch_scan (l : Latch) (s : State) : (setLatch l s).scan = s.scan := rfl
@[simp] theorem setLatch_tr (l : Latch) (s : State) : (setLatch l s).tr = s.tr := rfl
@[simp] theorem setLatch_tq (l : Latch) (s : State) : (setLatch l s).tq = s.tq := rfl
@[simp] theorem setLatch_rep (l : Latch) (s : State) : (setLatch l s).rep = s.rep := rfl
@[simp] theorem setLatch_lv (l : Latch) (s : State) : (setLatch l s).lv = { s.lv with latches := s.lv.latches ||| latchBit l } := rfl
@[simp] theorem setLatch_id (l : Latch) (s : State) : (setLatch l s).id = s.id := rfl
@[simp] theorem setLatch_fault (l : Latch) (s : State) : (setLatch l s).fault = s.fault := rfl
@[simp] theorem setLatch_tk (l : Latch) (s : State) : (setLatch l s).tk = s.tk := rfl
@[simp] theorem setLatch_mem (l : Latch) (s : State) : (setLatch l s).mem = s.mem := rfl
@[simp] theorem setLatch_wd (l : Latch) (s : State) : (setLatch l s).wd = s.wd := rfl
@[simp] theorem setLatch_sup (l : Latch) (s : State) : (setLatch l s).sup = s.sup := rfl
@[simp] theorem setLatch_starts (l : Latch) (s : State) : (setLatch l s).starts = s.starts := rfl

/-! ### clearLatches -/

@[simp] theorem clearLatches_pending (m : Half) (s : State) : (clearLatches m s).pending = s.pending := rfl
@[simp] theorem clearLatches_env (m : Half) (s : State) : (clearLatches m s).env = s.env := rfl
@[simp] theorem clearLatches_port (m : Half) (s : State) : (clearLatches m s).port = s.port := rfl
@[simp] theorem clearLatches_mb (m : Half) (s : State) : (clearLatches m s).mb = s.mb := rfl
@[simp] theorem clearLatches_cfg (m : Half) (s : State) : (clearLatches m s).cfg = s.cfg := rfl
@[simp] theorem clearLatches_scan (m : Half) (s : State) : (clearLatches m s).scan = s.scan := rfl
@[simp] theorem clearLatches_tr (m : Half) (s : State) : (clearLatches m s).tr = s.tr := rfl
@[simp] theorem clearLatches_tq (m : Half) (s : State) : (clearLatches m s).tq = s.tq := rfl
@[simp] theorem clearLatches_rep (m : Half) (s : State) : (clearLatches m s).rep = s.rep := rfl
@[simp] theorem clearLatches_lv (m : Half) (s : State) : (clearLatches m s).lv = { s.lv with latches := s.lv.latches &&& ~~~m } := rfl
@[simp] theorem clearLatches_id (m : Half) (s : State) : (clearLatches m s).id = s.id := rfl
@[simp] theorem clearLatches_fault (m : Half) (s : State) : (clearLatches m s).fault = s.fault := rfl
@[simp] theorem clearLatches_tk (m : Half) (s : State) : (clearLatches m s).tk = s.tk := rfl
@[simp] theorem clearLatches_mem (m : Half) (s : State) : (clearLatches m s).mem = s.mem := rfl
@[simp] theorem clearLatches_wd (m : Half) (s : State) : (clearLatches m s).wd = s.wd := rfl
@[simp] theorem clearLatches_sup (m : Half) (s : State) : (clearLatches m s).sup = s.sup := rfl
@[simp] theorem clearLatches_starts (m : Half) (s : State) : (clearLatches m s).starts = s.starts := rfl

/-! ### sampleChain -/

@[simp] theorem sampleChain_pending (s : State) : (sampleChain s).pending = s.pending := rfl
@[simp] theorem sampleChain_env (s : State) : (sampleChain s).env = s.env := rfl
@[simp] theorem sampleChain_port (s : State) : (sampleChain s).port = s.port := rfl
@[simp] theorem sampleChain_mb (s : State) : (sampleChain s).mb = s.mb := rfl
@[simp] theorem sampleChain_cfg (s : State) : (sampleChain s).cfg = s.cfg := rfl
@[simp] theorem sampleChain_scan (s : State) : (sampleChain s).scan = s.scan := rfl
@[simp] theorem sampleChain_tr (s : State) : (sampleChain s).tr = s.tr := rfl
@[simp] theorem sampleChain_tq (s : State) : (sampleChain s).tq = s.tq := rfl
@[simp] theorem sampleChain_rep (s : State) : (sampleChain s).rep = s.rep := rfl
@[simp] theorem sampleChain_lv (s : State) : (sampleChain s).lv = { s.lv with atnA := s.env.pins.atnA, atnB := s.env.pins.atnB } := rfl
@[simp] theorem sampleChain_id (s : State) : (sampleChain s).id = s.id := rfl
@[simp] theorem sampleChain_fault (s : State) : (sampleChain s).fault = s.fault := rfl
@[simp] theorem sampleChain_tk (s : State) : (sampleChain s).tk = s.tk := rfl
@[simp] theorem sampleChain_mem (s : State) : (sampleChain s).mem = s.mem := rfl
@[simp] theorem sampleChain_wd (s : State) : (sampleChain s).wd = s.wd := rfl
@[simp] theorem sampleChain_sup (s : State) : (sampleChain s).sup = s.sup := rfl
@[simp] theorem sampleChain_starts (s : State) : (sampleChain s).starts = s.starts := rfl

/-! ### setInterruptLine -/

@[simp] theorem setInterruptLine_pending (s : State) : (setInterruptLine s).pending = s.pending := rfl
@[simp] theorem setInterruptLine_env (s : State) : (setInterruptLine s).env = s.env := rfl
@[simp] theorem setInterruptLine_port (s : State) : (setInterruptLine s).port = s.port := rfl
@[simp] theorem setInterruptLine_mb (s : State) : (setInterruptLine s).mb = s.mb := rfl
@[simp] theorem setInterruptLine_cfg (s : State) : (setInterruptLine s).cfg = s.cfg := rfl
@[simp] theorem setInterruptLine_scan (s : State) : (setInterruptLine s).scan = s.scan := rfl
@[simp] theorem setInterruptLine_tr (s : State) : (setInterruptLine s).tr = s.tr := rfl
@[simp] theorem setInterruptLine_tq (s : State) : (setInterruptLine s).tq = s.tq := rfl
@[simp] theorem setInterruptLine_rep (s : State) : (setInterruptLine s).rep = s.rep := rfl
@[simp] theorem setInterruptLine_lv (s : State) : (setInterruptLine s).lv = { s.lv with nint := interruptLine s } := rfl
@[simp] theorem setInterruptLine_id (s : State) : (setInterruptLine s).id = s.id := rfl
@[simp] theorem setInterruptLine_fault (s : State) : (setInterruptLine s).fault = s.fault := rfl
@[simp] theorem setInterruptLine_tk (s : State) : (setInterruptLine s).tk = s.tk := rfl
@[simp] theorem setInterruptLine_mem (s : State) : (setInterruptLine s).mem = s.mem := rfl
@[simp] theorem setInterruptLine_wd (s : State) : (setInterruptLine s).wd = s.wd := rfl
@[simp] theorem setInterruptLine_sup (s : State) : (setInterruptLine s).sup = s.sup := rfl
@[simp] theorem setInterruptLine_starts (s : State) : (setInterruptLine s).starts = s.starts := rfl

/-! ### captureAll -/

@[simp] theorem captureAll_pending (f : List FaultReport) (s : State) : (captureAll f s).pending = s.pending := rfl
@[simp] theorem captureAll_env (f : List FaultReport) (s : State) : (captureAll f s).env = s.env := rfl
@[simp] theorem captureAll_port (f : List FaultReport) (s : State) : (captureAll f s).port = s.port := rfl
@[simp] theorem captureAll_mb (f : List FaultReport) (s : State) : (captureAll f s).mb = s.mb := rfl
@[simp] theorem captureAll_cfg (f : List FaultReport) (s : State) : (captureAll f s).cfg = s.cfg := rfl
@[simp] theorem captureAll_scan (f : List FaultReport) (s : State) : (captureAll f s).scan = s.scan := rfl
@[simp] theorem captureAll_tr (f : List FaultReport) (s : State) : (captureAll f s).tr = s.tr := rfl
@[simp] theorem captureAll_tq (f : List FaultReport) (s : State) : (captureAll f s).tq = s.tq := rfl
@[simp] theorem captureAll_rep (f : List FaultReport) (s : State) : (captureAll f s).rep = s.rep := rfl
@[simp] theorem captureAll_lv (f : List FaultReport) (s : State) : (captureAll f s).lv = s.lv := rfl
@[simp] theorem captureAll_id (f : List FaultReport) (s : State) : (captureAll f s).id = s.id := rfl
@[simp] theorem captureAll_fault (f : List FaultReport) (s : State) : (captureAll f s).fault = captureInto s.fault f := rfl
@[simp] theorem captureAll_tk (f : List FaultReport) (s : State) : (captureAll f s).tk = s.tk := rfl
@[simp] theorem captureAll_mem (f : List FaultReport) (s : State) : (captureAll f s).mem = s.mem := rfl
@[simp] theorem captureAll_wd (f : List FaultReport) (s : State) : (captureAll f s).wd = s.wd := rfl
@[simp] theorem captureAll_sup (f : List FaultReport) (s : State) : (captureAll f s).sup = s.sup := rfl
@[simp] theorem captureAll_starts (f : List FaultReport) (s : State) : (captureAll f s).starts = s.starts := rfl

/-! ### capture -/

@[simp] theorem capture_pending (f : FaultReport) (s : State) : (capture f s).pending = s.pending := rfl
@[simp] theorem capture_env (f : FaultReport) (s : State) : (capture f s).env = s.env := rfl
@[simp] theorem capture_port (f : FaultReport) (s : State) : (capture f s).port = s.port := rfl
@[simp] theorem capture_mb (f : FaultReport) (s : State) : (capture f s).mb = s.mb := rfl
@[simp] theorem capture_cfg (f : FaultReport) (s : State) : (capture f s).cfg = s.cfg := rfl
@[simp] theorem capture_scan (f : FaultReport) (s : State) : (capture f s).scan = s.scan := rfl
@[simp] theorem capture_tr (f : FaultReport) (s : State) : (capture f s).tr = s.tr := rfl
@[simp] theorem capture_tq (f : FaultReport) (s : State) : (capture f s).tq = s.tq := rfl
@[simp] theorem capture_rep (f : FaultReport) (s : State) : (capture f s).rep = s.rep := rfl
@[simp] theorem capture_lv (f : FaultReport) (s : State) : (capture f s).lv = s.lv := rfl
@[simp] theorem capture_id (f : FaultReport) (s : State) : (capture f s).id = s.id := rfl
@[simp] theorem capture_fault (f : FaultReport) (s : State) : (capture f s).fault = captureInto s.fault [f] := rfl
@[simp] theorem capture_tk (f : FaultReport) (s : State) : (capture f s).tk = s.tk := rfl
@[simp] theorem capture_mem (f : FaultReport) (s : State) : (capture f s).mem = s.mem := rfl
@[simp] theorem capture_wd (f : FaultReport) (s : State) : (capture f s).wd = s.wd := rfl
@[simp] theorem capture_sup (f : FaultReport) (s : State) : (capture f s).sup = s.sup := rfl
@[simp] theorem capture_starts (f : FaultReport) (s : State) : (capture f s).starts = s.starts := rfl

/-! ### complete -/

@[simp] theorem complete_pending (r : ResultCode) (o : Row) (s : State) : (complete r o s).pending = s.pending := rfl
@[simp] theorem complete_env (r : ResultCode) (o : Row) (s : State) : (complete r o s).env = s.env := rfl
@[simp] theorem complete_port (r : ResultCode) (o : Row) (s : State) : (complete r o s).port = s.port := rfl
@[simp] theorem complete_mb (r : ResultCode) (o : Row) (s : State) : (complete r o s).mb = { s.mb with res := o, result := r, state := .done, running := none } := rfl
@[simp] theorem complete_cfg (r : ResultCode) (o : Row) (s : State) : (complete r o s).cfg = s.cfg := rfl
@[simp] theorem complete_scan (r : ResultCode) (o : Row) (s : State) : (complete r o s).scan = s.scan := rfl
@[simp] theorem complete_tr (r : ResultCode) (o : Row) (s : State) : (complete r o s).tr = s.tr := rfl
@[simp] theorem complete_tq (r : ResultCode) (o : Row) (s : State) : (complete r o s).tq = s.tq := rfl
@[simp] theorem complete_rep (r : ResultCode) (o : Row) (s : State) : (complete r o s).rep = s.rep := rfl
@[simp] theorem complete_lv (r : ResultCode) (o : Row) (s : State) : (complete r o s).lv = { s.lv with latches := s.lv.latches ||| latchBit .commandDone } := rfl
@[simp] theorem complete_id (r : ResultCode) (o : Row) (s : State) : (complete r o s).id = s.id := rfl
@[simp] theorem complete_fault (r : ResultCode) (o : Row) (s : State) : (complete r o s).fault = s.fault := rfl
@[simp] theorem complete_tk (r : ResultCode) (o : Row) (s : State) : (complete r o s).tk = s.tk := rfl
@[simp] theorem complete_mem (r : ResultCode) (o : Row) (s : State) : (complete r o s).mem = s.mem := rfl
@[simp] theorem complete_wd (r : ResultCode) (o : Row) (s : State) : (complete r o s).wd = s.wd := rfl
@[simp] theorem complete_sup (r : ResultCode) (o : Row) (s : State) : (complete r o s).sup = s.sup := rfl
@[simp] theorem complete_starts (r : ResultCode) (o : Row) (s : State) : (complete r o s).starts = s.starts := rfl

/-! ### completeOk -/

@[simp] theorem completeOk_pending (s : State) : (completeOk s).pending = s.pending := rfl
@[simp] theorem completeOk_env (s : State) : (completeOk s).env = s.env := rfl
@[simp] theorem completeOk_port (s : State) : (completeOk s).port = s.port := rfl
@[simp] theorem completeOk_mb (s : State) : (completeOk s).mb = { s.mb with res := Row.zero, result := .ok, state := .done, running := none } := rfl
@[simp] theorem completeOk_cfg (s : State) : (completeOk s).cfg = s.cfg := rfl
@[simp] theorem completeOk_scan (s : State) : (completeOk s).scan = s.scan := rfl
@[simp] theorem completeOk_tr (s : State) : (completeOk s).tr = s.tr := rfl
@[simp] theorem completeOk_tq (s : State) : (completeOk s).tq = s.tq := rfl
@[simp] theorem completeOk_rep (s : State) : (completeOk s).rep = s.rep := rfl
@[simp] theorem completeOk_lv (s : State) : (completeOk s).lv = { s.lv with latches := s.lv.latches ||| latchBit .commandDone } := rfl
@[simp] theorem completeOk_id (s : State) : (completeOk s).id = s.id := rfl
@[simp] theorem completeOk_fault (s : State) : (completeOk s).fault = s.fault := rfl
@[simp] theorem completeOk_tk (s : State) : (completeOk s).tk = s.tk := rfl
@[simp] theorem completeOk_mem (s : State) : (completeOk s).mem = s.mem := rfl
@[simp] theorem completeOk_wd (s : State) : (completeOk s).wd = s.wd := rfl
@[simp] theorem completeOk_sup (s : State) : (completeOk s).sup = s.sup := rfl
@[simp] theorem completeOk_starts (s : State) : (completeOk s).starts = s.starts := rfl

/-! ### completeBadArgument -/

@[simp] theorem completeBadArgument_pending (i : Nat) (s : State) : (completeBadArgument i s).pending = s.pending := rfl
@[simp] theorem completeBadArgument_env (i : Nat) (s : State) : (completeBadArgument i s).env = s.env := rfl
@[simp] theorem completeBadArgument_port (i : Nat) (s : State) : (completeBadArgument i s).port = s.port := rfl
@[simp] theorem completeBadArgument_mb (i : Nat) (s : State) : (completeBadArgument i s).mb = { s.mb with res := Row.zero, result := .badArgument, state := .done, running := none } := rfl
@[simp] theorem completeBadArgument_cfg (i : Nat) (s : State) : (completeBadArgument i s).cfg = s.cfg := rfl
@[simp] theorem completeBadArgument_scan (i : Nat) (s : State) : (completeBadArgument i s).scan = s.scan := rfl
@[simp] theorem completeBadArgument_tr (i : Nat) (s : State) : (completeBadArgument i s).tr = s.tr := rfl
@[simp] theorem completeBadArgument_tq (i : Nat) (s : State) : (completeBadArgument i s).tq = s.tq := rfl
@[simp] theorem completeBadArgument_rep (i : Nat) (s : State) : (completeBadArgument i s).rep = s.rep := rfl
@[simp] theorem completeBadArgument_lv (i : Nat) (s : State) : (completeBadArgument i s).lv = { s.lv with latches := s.lv.latches ||| latchBit .commandDone } := rfl
@[simp] theorem completeBadArgument_id (i : Nat) (s : State) : (completeBadArgument i s).id = s.id := rfl
@[simp] theorem completeBadArgument_fault (i : Nat) (s : State) : (completeBadArgument i s).fault = captureInto s.fault [⟨.badArgument, .mailbox, runningCode s, byteOf i⟩] := rfl
@[simp] theorem completeBadArgument_tk (i : Nat) (s : State) : (completeBadArgument i s).tk = s.tk := rfl
@[simp] theorem completeBadArgument_mem (i : Nat) (s : State) : (completeBadArgument i s).mem = s.mem := rfl
@[simp] theorem completeBadArgument_wd (i : Nat) (s : State) : (completeBadArgument i s).wd = s.wd := rfl
@[simp] theorem completeBadArgument_sup (i : Nat) (s : State) : (completeBadArgument i s).sup = s.sup := rfl
@[simp] theorem completeBadArgument_starts (i : Nat) (s : State) : (completeBadArgument i s).starts = s.starts := rfl

/-! ### markCut -/

@[simp] theorem markCut_pending (s : State) : (markCut s).pending = s.pending := rfl
@[simp] theorem markCut_env (s : State) : (markCut s).env = s.env := rfl
@[simp] theorem markCut_port (s : State) : (markCut s).port = s.port := rfl
@[simp] theorem markCut_mb (s : State) : (markCut s).mb = s.mb := rfl
@[simp] theorem markCut_cfg (s : State) : (markCut s).cfg = s.cfg := rfl
@[simp] theorem markCut_scan (s : State) : (markCut s).scan = s.scan := rfl
@[simp] theorem markCut_tr (s : State) : (markCut s).tr = s.tr := rfl
@[simp] theorem markCut_tq (s : State) : (markCut s).tq = s.tq := rfl
@[simp] theorem markCut_rep (s : State) : (markCut s).rep = s.rep := rfl
@[simp] theorem markCut_lv (s : State) : (markCut s).lv = s.lv := rfl
@[simp] theorem markCut_id (s : State) : (markCut s).id = s.id := rfl
@[simp] theorem markCut_fault (s : State) : (markCut s).fault = s.fault := rfl
@[simp] theorem markCut_tk (s : State) : (markCut s).tk = s.tk := rfl
@[simp] theorem markCut_mem (s : State) : (markCut s).mem = s.mem := rfl
@[simp] theorem markCut_wd (s : State) : (markCut s).wd = s.wd := rfl
@[simp] theorem markCut_sup (s : State) : (markCut s).sup = { s.sup with cutShort := true } := rfl
@[simp] theorem markCut_starts (s : State) : (markCut s).starts = s.starts := rfl

/-! ### driveBus -/

@[simp] theorem driveBus_pending (b : Byte) (s : State) : (driveBus b s).pending = s.pending := rfl
@[simp] theorem driveBus_env (b : Byte) (s : State) : (driveBus b s).env = s.env := rfl
@[simp] theorem driveBus_port (b : Byte) (s : State) : (driveBus b s).port = { s.port with dataBus := b } := rfl
@[simp] theorem driveBus_mb (b : Byte) (s : State) : (driveBus b s).mb = s.mb := rfl
@[simp] theorem driveBus_cfg (b : Byte) (s : State) : (driveBus b s).cfg = s.cfg := rfl
@[simp] theorem driveBus_scan (b : Byte) (s : State) : (driveBus b s).scan = s.scan := rfl
@[simp] theorem driveBus_tr (b : Byte) (s : State) : (driveBus b s).tr = s.tr := rfl
@[simp] theorem driveBus_tq (b : Byte) (s : State) : (driveBus b s).tq = s.tq := rfl
@[simp] theorem driveBus_rep (b : Byte) (s : State) : (driveBus b s).rep = s.rep := rfl
@[simp] theorem driveBus_lv (b : Byte) (s : State) : (driveBus b s).lv = s.lv := rfl
@[simp] theorem driveBus_id (b : Byte) (s : State) : (driveBus b s).id = s.id := rfl
@[simp] theorem driveBus_fault (b : Byte) (s : State) : (driveBus b s).fault = s.fault := rfl
@[simp] theorem driveBus_tk (b : Byte) (s : State) : (driveBus b s).tk = s.tk := rfl
@[simp] theorem driveBus_mem (b : Byte) (s : State) : (driveBus b s).mem = s.mem := rfl
@[simp] theorem driveBus_wd (b : Byte) (s : State) : (driveBus b s).wd = s.wd := rfl
@[simp] theorem driveBus_sup (b : Byte) (s : State) : (driveBus b s).sup = s.sup := rfl
@[simp] theorem driveBus_starts (b : Byte) (s : State) : (driveBus b s).starts = s.starts := rfl

/-! ### appendRecord -/

@[simp] theorem appendRecord_pending (r : QRecord) (s : State) : (appendRecord r s).pending = s.pending := rfl
@[simp] theorem appendRecord_env (r : QRecord) (s : State) : (appendRecord r s).env = s.env := rfl
@[simp] theorem appendRecord_port (r : QRecord) (s : State) : (appendRecord r s).port = s.port := rfl
@[simp] theorem appendRecord_mb (r : QRecord) (s : State) : (appendRecord r s).mb = s.mb := rfl
@[simp] theorem appendRecord_cfg (r : QRecord) (s : State) : (appendRecord r s).cfg = s.cfg := rfl
@[simp] theorem appendRecord_scan (r : QRecord) (s : State) : (appendRecord r s).scan = s.scan := rfl
@[simp] theorem appendRecord_tr (r : QRecord) (s : State) : (appendRecord r s).tr = s.tr := rfl
@[simp] theorem appendRecord_tq (r : QRecord) (s : State) : (appendRecord r s).tq = { s.tq with records := s.tq.records ++ [r] } := rfl
@[simp] theorem appendRecord_rep (r : QRecord) (s : State) : (appendRecord r s).rep = s.rep := rfl
@[simp] theorem appendRecord_lv (r : QRecord) (s : State) : (appendRecord r s).lv = s.lv := rfl
@[simp] theorem appendRecord_id (r : QRecord) (s : State) : (appendRecord r s).id = s.id := rfl
@[simp] theorem appendRecord_fault (r : QRecord) (s : State) : (appendRecord r s).fault = s.fault := rfl
@[simp] theorem appendRecord_tk (r : QRecord) (s : State) : (appendRecord r s).tk = s.tk := rfl
@[simp] theorem appendRecord_mem (r : QRecord) (s : State) : (appendRecord r s).mem = s.mem := rfl
@[simp] theorem appendRecord_wd (r : QRecord) (s : State) : (appendRecord r s).wd = s.wd := rfl
@[simp] theorem appendRecord_sup (r : QRecord) (s : State) : (appendRecord r s).sup = s.sup := rfl
@[simp] theorem appendRecord_starts (r : QRecord) (s : State) : (appendRecord r s).starts = s.starts := rfl

/-! ### discardRecord -/

@[simp] theorem discardRecord_pending (s : State) : (discardRecord s).pending = s.pending := rfl
@[simp] theorem discardRecord_env (s : State) : (discardRecord s).env = s.env := rfl
@[simp] theorem discardRecord_port (s : State) : (discardRecord s).port = s.port := rfl
@[simp] theorem discardRecord_mb (s : State) : (discardRecord s).mb = s.mb := rfl
@[simp] theorem discardRecord_cfg (s : State) : (discardRecord s).cfg = s.cfg := rfl
@[simp] theorem discardRecord_scan (s : State) : (discardRecord s).scan = s.scan := rfl
@[simp] theorem discardRecord_tr (s : State) : (discardRecord s).tr = s.tr := rfl
@[simp] theorem discardRecord_tq (s : State) : (discardRecord s).tq = { s.tq with lost := if s.tq.lost = 255 then 255 else s.tq.lost + 1 } := rfl
@[simp] theorem discardRecord_rep (s : State) : (discardRecord s).rep = s.rep := rfl
@[simp] theorem discardRecord_lv (s : State) : (discardRecord s).lv = { s.lv with latches := s.lv.latches ||| latchBit .queueOverflow } := rfl
@[simp] theorem discardRecord_id (s : State) : (discardRecord s).id = s.id := rfl
@[simp] theorem discardRecord_fault (s : State) : (discardRecord s).fault = s.fault := rfl
@[simp] theorem discardRecord_tk (s : State) : (discardRecord s).tk = s.tk := rfl
@[simp] theorem discardRecord_mem (s : State) : (discardRecord s).mem = s.mem := rfl
@[simp] theorem discardRecord_wd (s : State) : (discardRecord s).wd = s.wd := rfl
@[simp] theorem discardRecord_sup (s : State) : (discardRecord s).sup = s.sup := rfl
@[simp] theorem discardRecord_starts (s : State) : (discardRecord s).starts = s.starts := rfl

/-! ### emptyQueue -/

@[simp] theorem emptyQueue_pending (s : State) : (emptyQueue s).pending = s.pending := rfl
@[simp] theorem emptyQueue_env (s : State) : (emptyQueue s).env = s.env := rfl
@[simp] theorem emptyQueue_port (s : State) : (emptyQueue s).port = s.port := rfl
@[simp] theorem emptyQueue_mb (s : State) : (emptyQueue s).mb = s.mb := rfl
@[simp] theorem emptyQueue_cfg (s : State) : (emptyQueue s).cfg = s.cfg := rfl
@[simp] theorem emptyQueue_scan (s : State) : (emptyQueue s).scan = s.scan := rfl
@[simp] theorem emptyQueue_tr (s : State) : (emptyQueue s).tr = s.tr := rfl
@[simp] theorem emptyQueue_tq (s : State) : (emptyQueue s).tq = { s.tq with records := [] } := rfl
@[simp] theorem emptyQueue_rep (s : State) : (emptyQueue s).rep = s.rep := rfl
@[simp] theorem emptyQueue_lv (s : State) : (emptyQueue s).lv = s.lv := rfl
@[simp] theorem emptyQueue_id (s : State) : (emptyQueue s).id = s.id := rfl
@[simp] theorem emptyQueue_fault (s : State) : (emptyQueue s).fault = s.fault := rfl
@[simp] theorem emptyQueue_tk (s : State) : (emptyQueue s).tk = s.tk := rfl
@[simp] theorem emptyQueue_mem (s : State) : (emptyQueue s).mem = s.mem := rfl
@[simp] theorem emptyQueue_wd (s : State) : (emptyQueue s).wd = s.wd := rfl
@[simp] theorem emptyQueue_sup (s : State) : (emptyQueue s).sup = s.sup := rfl
@[simp] theorem emptyQueue_starts (s : State) : (emptyQueue s).starts = s.starts := rfl

/-! ### cancelRepeat -/

@[simp] theorem cancelRepeat_pending (s : State) : (cancelRepeat s).pending = s.pending := rfl
@[simp] theorem cancelRepeat_env (s : State) : (cancelRepeat s).env = s.env := rfl
@[simp] theorem cancelRepeat_port (s : State) : (cancelRepeat s).port = s.port := rfl
@[simp] theorem cancelRepeat_mb (s : State) : (cancelRepeat s).mb = s.mb := rfl
@[simp] theorem cancelRepeat_cfg (s : State) : (cancelRepeat s).cfg = s.cfg := rfl
@[simp] theorem cancelRepeat_scan (s : State) : (cancelRepeat s).scan = s.scan := rfl
@[simp] theorem cancelRepeat_tr (s : State) : (cancelRepeat s).tr = s.tr := rfl
@[simp] theorem cancelRepeat_tq (s : State) : (cancelRepeat s).tq = s.tq := rfl
@[simp] theorem cancelRepeat_rep (s : State) : (cancelRepeat s).rep = .idle := rfl
@[simp] theorem cancelRepeat_lv (s : State) : (cancelRepeat s).lv = s.lv := rfl
@[simp] theorem cancelRepeat_id (s : State) : (cancelRepeat s).id = s.id := rfl
@[simp] theorem cancelRepeat_fault (s : State) : (cancelRepeat s).fault = s.fault := rfl
@[simp] theorem cancelRepeat_tk (s : State) : (cancelRepeat s).tk = s.tk := rfl
@[simp] theorem cancelRepeat_mem (s : State) : (cancelRepeat s).mem = s.mem := rfl
@[simp] theorem cancelRepeat_wd (s : State) : (cancelRepeat s).wd = s.wd := rfl
@[simp] theorem cancelRepeat_sup (s : State) : (cancelRepeat s).sup = s.sup := rfl
@[simp] theorem cancelRepeat_starts (s : State) : (cancelRepeat s).starts = s.starts := rfl

/-! ### clearCompose -/

@[simp] theorem clearCompose_pending (s : State) : (clearCompose s).pending = s.pending := rfl
@[simp] theorem clearCompose_env (s : State) : (clearCompose s).env = s.env := rfl
@[simp] theorem clearCompose_port (s : State) : (clearCompose s).port = s.port := rfl
@[simp] theorem clearCompose_mb (s : State) : (clearCompose s).mb = s.mb := rfl
@[simp] theorem clearCompose_cfg (s : State) : (clearCompose s).cfg = s.cfg := rfl
@[simp] theorem clearCompose_scan (s : State) : (clearCompose s).scan = s.scan := rfl
@[simp] theorem clearCompose_tr (s : State) : (clearCompose s).tr = { s.tr with acc := 0, digits := 0 } := rfl
@[simp] theorem clearCompose_tq (s : State) : (clearCompose s).tq = s.tq := rfl
@[simp] theorem clearCompose_rep (s : State) : (clearCompose s).rep = s.rep := rfl
@[simp] theorem clearCompose_lv (s : State) : (clearCompose s).lv = s.lv := rfl
@[simp] theorem clearCompose_id (s : State) : (clearCompose s).id = s.id := rfl
@[simp] theorem clearCompose_fault (s : State) : (clearCompose s).fault = s.fault := rfl
@[simp] theorem clearCompose_tk (s : State) : (clearCompose s).tk = s.tk := rfl
@[simp] theorem clearCompose_mem (s : State) : (clearCompose s).mem = s.mem := rfl
@[simp] theorem clearCompose_wd (s : State) : (clearCompose s).wd = s.wd := rfl
@[simp] theorem clearCompose_sup (s : State) : (clearCompose s).sup = s.sup := rfl
@[simp] theorem clearCompose_starts (s : State) : (clearCompose s).starts = s.starts := rfl

/-! ### requestReset -/

@[simp] theorem requestReset_pending (r : ResetReason) (s : State) : (requestReset r s).pending = s.pending := rfl
@[simp] theorem requestReset_env (r : ResetReason) (s : State) : (requestReset r s).env = s.env := rfl
@[simp] theorem requestReset_port (r : ResetReason) (s : State) : (requestReset r s).port = s.port := rfl
@[simp] theorem requestReset_mb (r : ResetReason) (s : State) : (requestReset r s).mb = s.mb := rfl
@[simp] theorem requestReset_cfg (r : ResetReason) (s : State) : (requestReset r s).cfg = s.cfg := rfl
@[simp] theorem requestReset_scan (r : ResetReason) (s : State) : (requestReset r s).scan = s.scan := rfl
@[simp] theorem requestReset_tr (r : ResetReason) (s : State) : (requestReset r s).tr = s.tr := rfl
@[simp] theorem requestReset_tq (r : ResetReason) (s : State) : (requestReset r s).tq = s.tq := rfl
@[simp] theorem requestReset_rep (r : ResetReason) (s : State) : (requestReset r s).rep = s.rep := rfl
@[simp] theorem requestReset_lv (r : ResetReason) (s : State) : (requestReset r s).lv = s.lv := rfl
@[simp] theorem requestReset_id (r : ResetReason) (s : State) : (requestReset r s).id = s.id := rfl
@[simp] theorem requestReset_fault (r : ResetReason) (s : State) : (requestReset r s).fault = s.fault := rfl
@[simp] theorem requestReset_tk (r : ResetReason) (s : State) : (requestReset r s).tk = s.tk := rfl
@[simp] theorem requestReset_mem (r : ResetReason) (s : State) : (requestReset r s).mem = s.mem := rfl
@[simp] theorem requestReset_wd (r : ResetReason) (s : State) : (requestReset r s).wd = s.wd := rfl
@[simp] theorem requestReset_sup (r : ResetReason) (s : State) : (requestReset r s).sup = { s.sup with request := some (mergeWith s.sup.request r) } := rfl
@[simp] theorem requestReset_starts (r : ResetReason) (s : State) : (requestReset r s).starts = s.starts := rfl

end Sys2Proof.Machine
end

