-- ==== Sys2Proof/Laws/Steps.lean ====
section
/-!
SUPPORT. Laws/Steps.lean: everything that the start and the end of a step, a host access, a mailbox command step and its
completion can do, said once, in the terms of Safety.lean.
-/

namespace Sys2Proof.Machine

/-! ### The start of a step -/

/-- The start of a step only takes the inputs. -/
theorem samplePins_eq (s : State) : samplePins s = { s with env := { pins := seenPins s, feed := s.env.feed.tail } } := by
  obtain ⟨pending, ⟨pins, feed⟩, port, mb, cfg, scan, tr, tq, rep, lv, id, fault, tk, mem, wd, sup, starts⟩ := s
  cases feed <;> rfl

@[simp] theorem samplePins_env (s : State) : (samplePins s).env = { pins := seenPins s, feed := s.env.feed.tail } := by
  rw [samplePins_eq]
@[simp] theorem samplePins_pending (s : State) : (samplePins s).pending = s.pending := by rw [samplePins_eq]
@[simp] theorem samplePins_port (s : State) : (samplePins s).port = s.port := by rw [samplePins_eq]
@[simp] theorem samplePins_mb (s : State) : (samplePins s).mb = s.mb := by rw [samplePins_eq]
@[simp] theorem samplePins_cfg (s : State) : (samplePins s).cfg = s.cfg := by rw [samplePins_eq]
@[simp] theorem samplePins_scan (s : State) : (samplePins s).scan = s.scan := by rw [samplePins_eq]
@[simp] theorem samplePins_tr (s : State) : (samplePins s).tr = s.tr := by rw [samplePins_eq]
@[simp] theorem samplePins_tq (s : State) : (samplePins s).tq = s.tq := by rw [samplePins_eq]
@[simp] theorem samplePins_rep (s : State) : (samplePins s).rep = s.rep := by rw [samplePins_eq]
@[simp] theorem samplePins_lv (s : State) : (samplePins s).lv = s.lv := by rw [samplePins_eq]
@[simp] theorem samplePins_id (s : State) : (samplePins s).id = s.id := by rw [samplePins_eq]
@[simp] theorem samplePins_fault (s : State) : (samplePins s).fault = s.fault := by rw [samplePins_eq]
@[simp] theorem samplePins_tk (s : State) : (samplePins s).tk = s.tk := by rw [samplePins_eq]
@[simp] theorem samplePins_mem (s : State) : (samplePins s).mem = s.mem := by rw [samplePins_eq]
@[simp] theorem samplePins_wd (s : State) : (samplePins s).wd = s.wd := by rw [samplePins_eq]
@[simp] theorem samplePins_sup (s : State) : (samplePins s).sup = s.sup := by rw [samplePins_eq]
@[simp] theorem samplePins_starts (s : State) : (samplePins s).starts = s.starts := by rw [samplePins_eq]

/-! ### The end of a step -/

/-- nINT does not read nINT. -/
theorem interruptLine_setInterruptLine (s : State) : interruptLine (setInterruptLine s) = interruptLine s := rfl

/-- The end of a step while the main domain is not held in reset. -/
theorem endStep_main {s : State} (hp : s.sup.power = .mainOn) (hh : s.sup.phase ≠ .held) :
    endStep s = setInterruptLine (sampleChain (samplePower s)) := by
  have : (s.sup.power == .mainOn && s.sup.phase != .held) = true := by simp [hp, hh]
  simp [endStep, this]

/-- The end of a step while the main domain is held in reset or unpowered. -/
theorem endStep_held {s : State} (h : s.sup.power = .mainOn → s.sup.phase = .held) :
    endStep s = setInterruptLine s := by
  have : ¬ (s.sup.power == .mainOn && s.sup.phase != .held) = true := by
    simp only [Bool.and_eq_true, beq_iff_eq, bne_iff_ne, ne_eq, not_and, not_not]
    exact h
  simp [endStep, this]

/-- The power monitor's sample. -/
theorem samplePower_eq (s : State) : samplePower s =
    { s with
      lv := { s.lv with latches := if s.env.pins.vddLow ∧ s.sup.pwrLow = false then s.lv.latches ||| 0x1000#16
        else s.lv.latches }
      sup := { s.sup with pwrLow := s.env.pins.vddLow } } := by
  have hb : latchBit .powerLow = 0x1000#16 := by decide
  cases h1 : s.env.pins.vddLow <;> cases h2 : s.sup.pwrLow <;> simp [samplePower, setLatch, h1, h2, hb]

/-- What the end of a step leaves alone, in every case. -/
theorem endStep_same (s : State) :
    (endStep s).pending = s.pending ∧ (endStep s).env = s.env ∧ (endStep s).port = s.port ∧ (endStep s).mb = s.mb ∧
    (endStep s).cfg = s.cfg ∧ (endStep s).scan = s.scan ∧ (endStep s).tr = s.tr ∧ (endStep s).tq = s.tq ∧
    (endStep s).rep = s.rep ∧ (endStep s).id = s.id ∧ (endStep s).fault = s.fault ∧ (endStep s).tk = s.tk ∧
    (endStep s).mem = s.mem ∧ (endStep s).wd = s.wd ∧ (endStep s).starts = s.starts ∧
    (endStep s).sup = { s.sup with pwrLow := (endStep s).sup.pwrLow } ∧
    (endStep s).lv.routes = s.lv.routes ∧ (endStep s).lv.enables = s.lv.enables ∧ (endStep s).lv.soft = s.lv.soft ∧
    (endStep s).lv.switch = s.lv.switch ∧ (endStep s).lv.stack = s.lv.stack := by
  by_cases h : s.sup.power = .mainOn ∧ s.sup.phase ≠ .held
  · rw [endStep_main h.1 h.2, samplePower_eq]
    exact ⟨rfl, rfl, rfl, rfl, rfl, rfl, rfl, rfl, rfl, rfl, rfl, rfl, rfl, rfl, rfl, rfl, rfl, rfl, rfl, rfl, rfl⟩
  · rw [endStep_held (by tauto)]
    exact ⟨rfl, rfl, rfl, rfl, rfl, rfl, rfl, rfl, rfl, rfl, rfl, rfl, rfl, rfl, rfl, rfl, rfl, rfl, rfl, rfl, rfl⟩

@[simp] theorem endStep_pending (s : State) : (endStep s).pending = s.pending := (endStep_same s).1
@[simp] theorem endStep_env (s : State) : (endStep s).env = s.env := (endStep_same s).2.1
@[simp] theorem endStep_port (s : State) : (endStep s).port = s.port := (endStep_same s).2.2.1
@[simp] theorem endStep_mb (s : State) : (endStep s).mb = s.mb := (endStep_same s).2.2.2.1
@[simp] theorem endStep_cfg (s : State) : (endStep s).cfg = s.cfg := (endStep_same s).2.2.2.2.1
@[simp] theorem endStep_scan (s : State) : (endStep s).scan = s.scan := (endStep_same s).2.2.2.2.2.1
@[simp] theorem endStep_tr (s : State) : (endStep s).tr = s.tr := (endStep_same s).2.2.2.2.2.2.1
@[simp] theorem endStep_tq (s : State) : (endStep s).tq = s.tq := (endStep_same s).2.2.2.2.2.2.2.1
@[simp] theorem endStep_rep (s : State) : (endStep s).rep = s.rep := (endStep_same s).2.2.2.2.2.2.2.2.1
@[simp] theorem endStep_id (s : State) : (endStep s).id = s.id := (endStep_same s).2.2.2.2.2.2.2.2.2.1
@[simp] theorem endStep_fault (s : State) : (endStep s).fault = s.fault := (endStep_same s).2.2.2.2.2.2.2.2.2.2.1
@[simp] theorem endStep_tk (s : State) : (endStep s).tk = s.tk := (endStep_same s).2.2.2.2.2.2.2.2.2.2.2.1
@[simp] theorem endStep_mem (s : State) : (endStep s).mem = s.mem := (endStep_same s).2.2.2.2.2.2.2.2.2.2.2.2.1
@[simp] theorem endStep_wd (s : State) : (endStep s).wd = s.wd := (endStep_same s).2.2.2.2.2.2.2.2.2.2.2.2.2.1
@[simp] theorem endStep_starts (s : State) : (endStep s).starts = s.starts :=
  (endStep_same s).2.2.2.2.2.2.2.2.2.2.2.2.2.2.1
theorem endStep_sup (s : State) : (endStep s).sup = { s.sup with pwrLow := (endStep s).sup.pwrLow } :=
  (endStep_same s).2.2.2.2.2.2.2.2.2.2.2.2.2.2.2.1
@[simp] theorem endStep_routes (s : State) : (endStep s).lv.routes = s.lv.routes :=
  (endStep_same s).2.2.2.2.2.2.2.2.2.2.2.2.2.2.2.2.1
@[simp] theorem endStep_enables (s : State) : (endStep s).lv.enables = s.lv.enables :=
  (endStep_same s).2.2.2.2.2.2.2.2.2.2.2.2.2.2.2.2.2.1
@[simp] theorem endStep_soft (s : State) : (endStep s).lv.soft = s.lv.soft :=
  (endStep_same s).2.2.2.2.2.2.2.2.2.2.2.2.2.2.2.2.2.2.1
@[simp] theorem endStep_switch (s : State) : (endStep s).lv.switch = s.lv.switch :=
  (endStep_same s).2.2.2.2.2.2.2.2.2.2.2.2.2.2.2.2.2.2.2.1
@[simp] theorem endStep_stack (s : State) : (endStep s).lv.stack = s.lv.stack :=
  (endStep_same s).2.2.2.2.2.2.2.2.2.2.2.2.2.2.2.2.2.2.2.2

/-- The supervisor fields that the end of a step leaves alone. -/
theorem endStep_sup_same (s : State) :
    (endStep s).sup.power = s.sup.power ∧ (endStep s).sup.phase = s.sup.phase ∧ (endStep s).sup.reason = s.sup.reason ∧
    (endStep s).sup.request = s.sup.request ∧ (endStep s).sup.stretchTicks = s.sup.stretchTicks ∧
    (endStep s).sup.stretchClks = s.sup.stretchClks ∧ (endStep s).sup.batLow = s.sup.batLow ∧
    (endStep s).sup.defaults = s.sup.defaults ∧ (endStep s).sup.coldMarker = s.sup.coldMarker ∧
    (endStep s).sup.vddLost = s.sup.vddLost ∧ (endStep s).sup.detector = s.sup.detector ∧
    (endStep s).sup.oscSeen = s.sup.oscSeen ∧ (endStep s).sup.oscHalt = s.sup.oscHalt ∧
    (endStep s).sup.cutShort = s.sup.cutShort ∧ (endStep s).sup.haltReady = s.sup.haltReady := by
  rw [endStep_sup]
  exact ⟨rfl, rfl, rfl, rfl, rfl, rfl, rfl, rfl, rfl, rfl, rfl, rfl, rfl, rfl, rfl⟩

@[simp] theorem endStep_power (s : State) : (endStep s).sup.power = s.sup.power := (endStep_sup_same s).1
@[simp] theorem endStep_phase (s : State) : (endStep s).sup.phase = s.sup.phase := (endStep_sup_same s).2.1
@[simp] theorem endStep_reason (s : State) : (endStep s).sup.reason = s.sup.reason := (endStep_sup_same s).2.2.1
@[simp] theorem endStep_request (s : State) : (endStep s).sup.request = s.sup.request := (endStep_sup_same s).2.2.2.1
@[simp] theorem endStep_stretchTicks (s : State) : (endStep s).sup.stretchTicks = s.sup.stretchTicks :=
  (endStep_sup_same s).2.2.2.2.1
@[simp] theorem endStep_stretchClks (s : State) : (endStep s).sup.stretchClks = s.sup.stretchClks :=
  (endStep_sup_same s).2.2.2.2.2.1
@[simp] theorem endStep_batLow (s : State) : (endStep s).sup.batLow = s.sup.batLow := (endStep_sup_same s).2.2.2.2.2.2.1
@[simp] theorem endStep_defaults (s : State) : (endStep s).sup.defaults = s.sup.defaults :=
  (endStep_sup_same s).2.2.2.2.2.2.2.1
@[simp] theorem endStep_coldMarker (s : State) : (endStep s).sup.coldMarker = s.sup.coldMarker :=
  (endStep_sup_same s).2.2.2.2.2.2.2.2.1
@[simp] theorem endStep_vddLost (s : State) : (endStep s).sup.vddLost = s.sup.vddLost :=
  (endStep_sup_same s).2.2.2.2.2.2.2.2.2.1
@[simp] theorem endStep_detector (s : State) : (endStep s).sup.detector = s.sup.detector :=
  (endStep_sup_same s).2.2.2.2.2.2.2.2.2.2.1
@[simp] theorem endStep_oscSeen (s : State) : (endStep s).sup.oscSeen = s.sup.oscSeen :=
  (endStep_sup_same s).2.2.2.2.2.2.2.2.2.2.2.1
@[simp] theorem endStep_oscHalt (s : State) : (endStep s).sup.oscHalt = s.sup.oscHalt :=
  (endStep_sup_same s).2.2.2.2.2.2.2.2.2.2.2.2.1
@[simp] theorem endStep_cutShort (s : State) : (endStep s).sup.cutShort = s.sup.cutShort :=
  (endStep_sup_same s).2.2.2.2.2.2.2.2.2.2.2.2.2.1
@[simp] theorem endStep_haltReady (s : State) : (endStep s).sup.haltReady = s.sup.haltReady :=
  (endStep_sup_same s).2.2.2.2.2.2.2.2.2.2.2.2.2.2

/-- The latch word after the end of a step. -/
theorem endStep_latches (s : State) : (endStep s).lv.latches =
    if s.sup.power = .mainOn ∧ s.sup.phase ≠ .held ∧ s.env.pins.vddLow = true ∧ s.sup.pwrLow = false
    then s.lv.latches ||| 0x1000#16 else s.lv.latches := by
  by_cases h : s.sup.power = .mainOn ∧ s.sup.phase ≠ .held
  · rw [endStep_main h.1 h.2, samplePower_eq]
    simp [h.1, h.2]
  · rw [endStep_held (by tauto)]
    rw [if_neg (by tauto)]
    rfl

/-- nINT after the end of a step follows the state then left (R102). -/
theorem endStep_nint (s : State) : (endStep s).lv.nint = interruptLine (endStep s) := rfl

/-- A step of the running main domain whose own work `u` leaves power state, reset phase and last sample alone ends as
every step does. -/
theorem endsStep_endStep {s u : State} (hp : u.sup.power = .mainOn) (hh : u.sup.phase ≠ .held)
    (he : u.env = (samplePins s).env) (hl : u.sup.pwrLow = s.sup.pwrLow) : EndsStep s (endStep u) u.lv.latches := by
  have e : u.env.pins = seenPins s := by rw [he]; simp
  refine ⟨?_, ?_, ?_, ?_, ?_, rfl⟩
  · simp [ReadsPins, he]
  · rw [endStep_latches, withPowerLow, ← e, ← hl]
    simp [hp, hh]
  · rw [endStep_main hp hh, samplePower_eq, ← e]; rfl
  · rw [endStep_main hp hh, samplePower_eq, ← e]; rfl
  · rw [endStep_main hp hh, samplePower_eq, ← e]; rfl

/-- A part that the own work of a step leaves alone is left alone by the whole step, the latches apart. -/
theorem part_same_endStep {p : Part} {s u : State} (h : p.same s u) (hl : p ≠ .latches) : p.same s (endStep u) := by
  cases p <;> simp_all [Part.same]

/-- A whole step of the running main domain, from what its own work `u` does. -/
theorem mainStep_endStep {s u : State} {latches : Half} {parts : List Part} (hr : Runs s) (hpow : Part.power.same s u)
    (he : u.env = (samplePins s).env) (hl : u.sup.pwrLow = s.sup.pwrLow) (hlat : u.lv.latches = latches)
    (hq : u.pending = s.pending) (hs : ∀ p : Part, p ∉ Part.latches :: parts → p.same s u) :
    MainStep latches parts s (endStep u) := by
  obtain ⟨h1, h2, -, -⟩ := hr
  simp only [Part.same] at hpow
  subst hlat
  refine ⟨endsStep_endStep (hpow.1.trans h1) (by rw [hpow.2.1]; exact h2) he hl, by simpa using hq, fun p hp => ?_⟩
  exact part_same_endStep (hs p hp) (fun e => hp (by simp [e]))

/-! ### When commands take effect -/

/-- A running main domain, as the model tests it. -/
theorem mainRunning_of_runs {s : State} (h : Runs s) : mainRunning s = true := by
  obtain ⟨h1, h2, h3, h4⟩ := h
  simp [mainRunning, h1, h2, h3, h4]

/-- What the model's test of a running main domain says. -/
theorem runs_of_mainRunning {s : State} (h : mainRunning s = true) : Runs s := by
  simp only [mainRunning, Bool.and_eq_true, beq_iff_eq, bne_iff_ne, Bool.not_eq_true'] at h
  exact ⟨h.1.1.1, h.1.1.2, h.1.2, h.2⟩

/-- An open host port, as the model tests it. -/
theorem portOpen_of {s : State} (h : PortOpen s) : portOpen s = true := by
  simp [portOpen, mainRunning_of_runs h.1, h.2]

/-- A host write on an open port is one whole step. -/
theorem hostWrite_open {s : State} (h : PortOpen s) (act : State → State) :
    hostWrite act s = endStep (act (samplePins s)) := by
  simp [hostWrite, portOpen_of h, stepOf]

/-- A host read on an open port is one whole step. -/
theorem hostRead_open {s : State} (h : PortOpen s) (value : State → Byte) (effect : State → State) :
    hostRead value effect s = endStep (driveBus (value (samplePins s)) (effect (samplePins s))) := by
  simp [hostRead, portOpen_of h, stepOf]

/-- A host write while nHRST is asserted has no effect (R1). -/
theorem hostWrite_closed {s : State} (h : PortClosed s) (act : State → State) :
    hostWrite act s = endStep (samplePins s) := by
  simp [hostWrite, portOpen, mainRunning_of_runs h.1, h.2, stepOf]

/-- A host read while nHRST is asserted returns 0x00 and has no effect (R1). -/
theorem hostRead_closed {s : State} (h : PortClosed s) (value : State → Byte) (effect : State → State) :
    hostRead value effect s = endStep (driveBus 0 (samplePins s)) := by
  simp [hostRead, portOpen, mainRunning_of_runs h.1, h.2, stepOf]

/-- A started mailbox command takes one whole step. -/
theorem commandStep_started {code : Byte} {s : State} (h : Started code s) (body : State → State) :
    commandStep code body s = endStep (body (samplePins s)) := by
  simp [commandStep, commandReady, mainRunning_of_runs h.1, h.2.1, h.2.2, stepOf]

/-- A mailbox command step either takes place, in a running main domain, or changes nothing. -/
theorem commandStep_cases (code : Byte) (body : State → State) (s : State) :
    commandStep code body s = s ∨
    (Runs s ∧ s.mb.state = .busy ∧ s.mb.running = some code ∧ commandStep code body s = endStep (body (samplePins s))) := by
  by_cases h : commandReady code s = true
  · right
    have h' := h
    simp only [commandReady, Bool.and_eq_true, beq_iff_eq] at h'
    refine ⟨runs_of_mainRunning h'.1.1, h'.1.2, h'.2, ?_⟩
    simp [commandStep, h, stepOf]
  · left
    simp [commandStep, h]

/-- A host write takes effect on an open port, passes without effect in the stretch of nHRST, or changes nothing. -/
theorem hostWrite_cases (act : State → State) (s : State) :
    (PortOpen s ∧ hostWrite act s = endStep (act (samplePins s))) ∨
    (Runs s ∧ hostWrite act s = endStep (samplePins s)) ∨ hostWrite act s = s := by
  by_cases ho : portOpen s = true
  · left
    have ho' := ho
    simp only [portOpen, Bool.and_eq_true, beq_iff_eq] at ho'
    exact ⟨⟨runs_of_mainRunning ho'.1, ho'.2⟩, by simp [hostWrite, ho, stepOf]⟩
  · right
    by_cases hm : mainRunning s = true
    · left; exact ⟨runs_of_mainRunning hm, by simp [hostWrite, ho, hm, stepOf]⟩
    · right; simp [hostWrite, ho, hm]

/-- A host read takes effect on an open port, returns 0x00 without effect in the stretch of nHRST, or does no more than put
0x00 on the bus. -/
theorem hostRead_cases (value : State → Byte) (effect : State → State) (s : State) :
    (PortOpen s ∧ hostRead value effect s = endStep (driveBus (value (samplePins s)) (effect (samplePins s)))) ∨
    (Runs s ∧ hostRead value effect s = endStep (driveBus 0 (samplePins s))) ∨
    hostRead value effect s = driveBus 0 s ∨ hostRead value effect s = s := by
  by_cases ho : portOpen s = true
  · left
    have ho' := ho
    simp only [portOpen, Bool.and_eq_true, beq_iff_eq] at ho'
    exact ⟨⟨runs_of_mainRunning ho'.1, ho'.2⟩, by simp [hostRead, ho, stepOf]⟩
  · right
    by_cases hm : mainRunning s = true
    · left; exact ⟨runs_of_mainRunning hm, by simp [hostRead, ho, hm, stepOf]⟩
    · right
      simp only [hostRead, ho, hm, if_false, Bool.false_eq_true]
      split
      · exact Or.inl rfl
      · exact Or.inr rfl

/-! ### Fault capture -/

/-- A single fault (R130, R131). -/
@[simp] theorem captureInto_single (r : FaultRecord) (f : FaultReport) : captureInto r [f] = recordAfter f r := by
  cases r with | mk cause origin a b lost locked => cases locked <;> simp [captureInto, recordAfter, firstFault]

/-- No fault leaves the record as it is. -/
@[simp] theorem captureInto_nil (r : FaultRecord) : captureInto r [] = r := rfl

/-! ### Latch bits -/

@[simp] theorem latchBit_commandDone : latchBit .commandDone = 0x0800#16 := by decide
@[simp] theorem latchBit_powerLow : latchBit .powerLow = 0x1000#16 := by decide
@[simp] theorem latchBit_watchdog : latchBit .watchdog = 0x2000#16 := by decide
@[simp] theorem latchBit_queueOverflow : latchBit .queueOverflow = 0x0004#16 := by decide
@[simp] theorem latchBit_attentionChord : latchBit .attentionChord = 0x0008#16 := by decide
@[simp] theorem latchBit_hold : latchBit .hold = 0x0010#16 := by decide
@[simp] theorem latchBit_matrix : latchBit .matrix = 0x0020#16 := by decide
@[simp] theorem latchBit_alarm : latchBit .alarm = 0x0040#16 := by decide
@[simp] theorem latchBit_tick : latchBit .tick = 0x0080#16 := by decide
@[simp] theorem latchBit_dayChange : latchBit .dayChange = 0x0100#16 := by decide

/-! ### The completion of a mailbox command -/

/-- A started command whose own work changes only `parts` and then completes (R13). -/
theorem completes_of_body {code : Byte} {s u : State} {r : ResultCode} {out : Row} {parts : List Part}
    (h : Started code s) (hpow : Part.power.same s u) (he : u.env = (samplePins s).env)
    (hl : u.sup.pwrLow = s.sup.pwrLow) (hlat : u.lv.latches = s.lv.latches) (hq : u.pending = s.pending)
    (hm : u.mb = s.mb) (hs : ∀ p : Part, p ∉ parts → p.same s u) :
    Completes r out parts s (endStep (complete r out u)) := by
  refine ⟨by simp [hm], mainStep_endStep h.1 ?_ (by simpa using he) (by simpa using hl) ?_ (by simpa using hq) ?_⟩
  · simpa [Part.same] using hpow
  · simp [hlat]
  · intro p hp
    simp only [List.mem_cons, not_or] at hp
    have hsame := hs p hp.2.2
    cases p <;> simp_all [Part.same]

end Sys2Proof.Machine
end

