-- ==== Sys2Proof/Laws/Commands.lean ====
section
/-!
SUPPORT. Laws/Commands.lean: what a host access and a mailbox command come to, in the terms of Safety.lean: argument bytes,
result rows, argument checks, rejection, and the one step that an open port or a started command takes.
-/

namespace Sys2Proof.Machine

/-! ### Argument bytes and result rows -/

/-- A working-copy byte by index. -/
theorem row_getD (v : Row) (i : Nat) (h : i < 8) : v.getD i 0 = v[i] := by
  simp [Vector.getD, h]

/-- A working-copy byte as a number. -/
theorem argNat_eq (s : State) (i : Nat) (h : i < 8) : argNat s i = (s.mb.work[i]).toNat := by
  simp [argNat, Vector.getD, h]

/-- The row that starts with one byte. -/
theorem row_set_oneByte (b : Byte) : Row.zero.set 0 b = oneByte b := by
  apply Vector.ext
  intro i hi
  rcases i with _ | _ | _ | _ | _ | _ | _ | _ | i <;> rfl

/-- The row that starts with two bytes. -/
theorem row_set_twoBytes (b c : Byte) : (Row.zero.set 0 b).set 1 c = twoBytes b c := by
  apply Vector.ext
  intro i hi
  rcases i with _ | _ | _ | _ | _ | _ | _ | _ | i <;> rfl

/-! ### Argument checks (R12) -/

theorem firstFailing_cons (b : Bool) (i : Nat) (r : List (Bool × Nat)) :
    firstFailing ((b, i) :: r) = if b then firstFailing r else some i := rfl

@[simp] theorem firstFailing_nil : firstFailing [] = none := rfl

/-- A command whose checks all pass acts. -/
theorem withChecks_ok {checks : List (Bool × Nat)} {act : State → State} {s : State} (h : firstFailing checks = none) :
    withChecks checks act s = act s := by
  simp [withChecks, h]

/-- A command that may be cut acts when its checks all pass. -/
theorem withChecksCut_ok {cut : Option Nat} {checks : List (Bool × Nat)} {act : State → State} {s : State}
    (h : firstFailing checks = none) : withChecksCut cut checks act s = act s := by
  simp [withChecksCut, h]

/-- A started command whose first failing check reports `i` is rejected with that index. -/
theorem rejects_withChecks {code : Byte} {s : State} {i : Nat} {checks : List (Bool × Nat)} {act : State → State}
    (h : Started code s) (hf : firstFailing checks = some i) :
    Rejects code i s (endStep (withChecks checks act (samplePins s))) := by
  simp only [withChecks, hf]
  have e : runningCode (samplePins s) = code := by simp [runningCode, h.2.2]
  unfold Rejects completeBadArgument
  rw [e]
  refine ⟨by simp, by simp, ?_⟩
  refine mainStep_endStep h.1 ?_ ?_ ?_ ?_ ?_ ?_ <;> first | (simp [Part.same]; done) | skip
  intro p hp
  cases p <;> first | (refine absurd ?_ hp; decide) | simp [Part.same]

/-- The same for a command that may be cut and is not. -/
theorem rejects_withChecksCut {code : Byte} {s : State} {i : Nat} {checks : List (Bool × Nat)} {act : State → State}
    (h : Started code s) (hf : firstFailing checks = some i) :
    Rejects code i s (endStep (withChecksCut none checks act (samplePins s))) := by
  have := rejects_withChecks (act := act) h hf
  simpa [withChecks, withChecksCut, hf] using this

/-! ### One step each -/

/-- A started mailbox command answers the end of its body's step. -/
theorem started_next {code : Byte} {body : State → State} {s : State} (h : Started code s) {P : State → Prop}
    (hp : P (endStep (body (samplePins s)))) :
    ∃ t, (Host.Outcome.next (commandStep code body s) : Host.Outcome State Fault Refusal) = .next t ∧ P t :=
  ⟨_, rfl, by rw [commandStep_started h]; exact hp⟩

/-- A host write on an open port answers the end of its action's step. -/
theorem hostWrite_next {action : State → State} {s : State} (h : PortOpen s) {P : State → Prop}
    (hp : P (endStep (action (samplePins s)))) :
    ∃ t, (Host.Outcome.next (hostWrite action s) : Host.Outcome State Fault Refusal) = .next t ∧ P t :=
  ⟨_, rfl, by rw [hostWrite_open h]; exact hp⟩

/-- A host read on an open port answers the end of its step. -/
theorem hostRead_next {value : State → Byte} {effect : State → State} {s : State} (h : PortOpen s) {P : State → Prop}
    (hp : P (endStep (driveBus (value (samplePins s)) (effect (samplePins s))))) :
    ∃ t, (Host.Outcome.next (hostRead value effect s) : Host.Outcome State Fault Refusal) = .next t ∧ P t :=
  ⟨_, rfl, by rw [hostRead_open h]; exact hp⟩

end Sys2Proof.Machine
end

