-- ==== Sys2Proof/Laws/Table.lean ====
section
/-!
SUPPORT. Laws/Table.lean: reading after writing a sparse table, and the canonical form that writing keeps.
-/

namespace Sys2Proof.Machine

variable {α : Type} [DecidableEq α]

/-- A key below every listed key reads as its default. -/
theorem Table.get_of_lt {dflt : Nat → α} {n k : Nat} {t : Table α} (h : Table.wfFrom dflt n t = true) (hk : k < n) :
    Table.get dflt t k = dflt k := by
  induction t generalizing n with
  | nil => rfl
  | cons c r ih =>
    simp only [Table.wfFrom, Bool.and_eq_true, decide_eq_true_eq] at h
    simp only [Table.get]
    rw [if_neg (by omega)]
    exact ih h.2 (by omega)

/-- The canonical form from a bound holds from every lower one. -/
theorem Table.wfFrom_mono {dflt : Nat → α} {n m : Nat} {t : Table α} (h : Table.wfFrom dflt n t = true) (hm : m ≤ n) :
    Table.wfFrom dflt m t = true := by
  cases t with
  | nil => rfl
  | cons c r =>
    simp only [Table.wfFrom, Bool.and_eq_true, decide_eq_true_eq] at h ⊢
    exact ⟨⟨by omega, h.1.2⟩, h.2⟩

/-- A write keeps the keys strictly rising and lists no default. -/
theorem Table.wfFrom_set {dflt : Nat → α} {n k : Nat} {v : α} {t : Table α} (h : Table.wfFrom dflt n t = true)
    (hk : n ≤ k) : Table.wfFrom dflt n (Table.set dflt t k v) = true := by
  induction t generalizing n with
  | nil =>
    simp only [Table.set]
    split <;> simp_all [Table.wfFrom]
  | cons c r ih =>
    obtain ⟨a, w⟩ := c
    simp only [Table.wfFrom, Bool.and_eq_true, decide_eq_true_eq] at h
    simp only [Table.set]
    split
    · split <;> simp_all [Table.wfFrom]
    · split
      · subst_vars
        split
        · exact Table.wfFrom_mono h.2 (by omega)
        · simp_all [Table.wfFrom]
      · simp only [Table.wfFrom, Bool.and_eq_true, decide_eq_true_eq]
        exact ⟨h.1, ih h.2 (by omega)⟩

/-- What a key reads as after a write. -/
theorem Table.get_set {dflt : Nat → α} {n : Nat} {t : Table α} (h : Table.wfFrom dflt n t = true) (k j : Nat) (v : α) :
    Table.get dflt (Table.set dflt t k v) j = if j = k then v else Table.get dflt t j := by
  induction t generalizing n with
  | nil =>
    simp only [Table.set]
    split <;> simp only [Table.get] <;> split <;> simp_all
    omega
  | cons c r ih =>
    obtain ⟨a, w⟩ := c
    simp only [Table.wfFrom, Bool.and_eq_true, decide_eq_true_eq] at h
    simp only [Table.set]
    by_cases hka : k < a
    · rw [if_pos hka]
      have hd : Table.get dflt ((a, w) :: r) k = dflt k := by
        simp only [Table.get]
        rw [if_neg (by omega)]
        exact Table.get_of_lt h.2 (by omega)
      split
      · by_cases hj : j = k
        · subst hj; rw [if_pos rfl, hd]; simp_all
        · rw [if_neg hj]
      · conv_lhs => rw [Table.get]
        by_cases hj : j = k
        · subst hj; simp
        · rw [if_neg hj, if_neg (fun e => hj e.symm)]
    · rw [if_neg hka]
      by_cases hk : k = a
      · subst hk
        rw [if_pos rfl]
        split
        · by_cases hj : j = k
          · subst hj; rw [if_pos rfl, Table.get_of_lt h.2 (by omega)]; simp_all
          · simp only [Table.get, if_neg hj, if_neg (fun e => hj e.symm : ¬ k = j)]
        · simp only [Table.get]
          by_cases hj : j = k
          · subst hj; simp
          · simp only [if_neg hj, if_neg (fun e => hj e.symm : ¬ k = j)]
      · rw [if_neg hk]
        simp only [Table.get, ih h.2]
        by_cases hj : j = k
        · subst hj; simp only [if_pos, if_neg (fun e => hk e.symm : ¬ a = j)]
        · simp only [if_neg hj]

/-- A table in its canonical form has its keys rising. -/
theorem Table.wfFrom_of_wf {dflt : Nat → α} {size : Nat} {t : Table α} (h : Table.wf dflt size t = true) :
    Table.wfFrom dflt 0 t = true := by
  simp only [Table.wf, Bool.and_eq_true] at h
  exact h.1

/-- The keys of a written table are those of the table and the key written. -/
theorem Table.all_lt_set {dflt : Nat → α} {size k : Nat} {v : α} {t : Table α}
    (h : t.all (fun c => decide (c.1 < size)) = true) (hk : k < size) :
    (Table.set dflt t k v).all (fun c => decide (c.1 < size)) = true := by
  induction t with
  | nil =>
    simp only [Table.set]
    split <;> simp [hk]
  | cons c r ih =>
    obtain ⟨a, w⟩ := c
    rw [List.all_cons, Bool.and_eq_true] at h
    have hr := ih h.2
    have hk' : decide (k < size) = true := decide_eq_true hk
    simp only [Table.set]
    split
    · split <;> simp only [List.all_cons, h.1, h.2, hk', Bool.and_self]
    · split
      · split <;> simp only [List.all_cons, h.2, hk', Bool.and_self]
      · simp only [List.all_cons, h.1, hr, Bool.and_self]

/-- A write below the size keeps the canonical form. -/
theorem Table.wf_set {dflt : Nat → α} {size k : Nat} {v : α} {t : Table α} (h : Table.wf dflt size t = true)
    (hk : k < size) : Table.wf dflt size (Table.set dflt t k v) = true := by
  simp only [Table.wf, Bool.and_eq_true] at h ⊢
  exact ⟨Table.wfFrom_set h.1 (Nat.zero_le k), Table.all_lt_set h.2 hk⟩

/-- Reading after writing a table in its canonical form. -/
theorem Table.get_set_wf {dflt : Nat → α} {size : Nat} {t : Table α} (h : Table.wf dflt size t = true) (k j : Nat)
    (v : α) : Table.get dflt (Table.set dflt t k v) j = if j = k then v else Table.get dflt t j :=
  Table.get_set (Table.wfFrom_of_wf h) k j v

/-- The empty table is in its canonical form. -/
@[simp] theorem Table.wf_nil (dflt : Nat → α) (size : Nat) : Table.wf dflt size ([] : Table α) = true := rfl

end Sys2Proof.Machine
end

