-- ==== Sys2Proof/Laws/Memory.lean ====
section
/-!
SUPPORT. Laws/Memory.lean: reading after writing the backup memory, the canonical form that every operation on it keeps, and
the checksum (Chapter 9).
-/

namespace Sys2Proof.Machine

/-- The byte at an address after one write. -/
theorem memByte_memWrite {m : Memory} (h : Memory.wf m = true) (a j : Nat) (b : Byte) :
    memByte (memWrite m a b) j = if j = a then b else memByte m j :=
  Table.get_set_wf h a j b

/-- A write to an address of the memory keeps the canonical form. -/
theorem memWrite_wf {m : Memory} (h : Memory.wf m = true) {a : Nat} (ha : a < 64) (b : Byte) :
    Memory.wf (memWrite m a b) = true :=
  Table.wf_set h ha

/-- Writes to addresses of the memory keep the canonical form. -/
theorem memWrites_wf {m : Memory} (h : Memory.wf m = true) {ws : List (Nat × Byte)} (hw : ∀ w ∈ ws, w.1 < 64) :
    Memory.wf (memWrites m ws) = true := by
  induction ws generalizing m with
  | nil => exact h
  | cons w r ih =>
    rw [memWrites, List.foldl_cons]
    exact ih (memWrite_wf h (hw w (by simp)) w.2) (fun x hx => hw x (by simp [hx]))

/-- Two runs of writes, one after the other. -/
theorem memWrites_append (m : Memory) (ws vs : List (Nat × Byte)) :
    memWrites m (ws ++ vs) = memWrites (memWrites m ws) vs := by
  simp [memWrites, List.foldl_append]

/-- An address that no write names keeps its byte. -/
theorem memByte_memWrites_of_not_mem {m : Memory} (h : Memory.wf m = true) {ws : List (Nat × Byte)}
    (hw : ∀ w ∈ ws, w.1 < 64) {a : Nat} (ha : ∀ w ∈ ws, w.1 ≠ a) : memByte (memWrites m ws) a = memByte m a := by
  induction ws generalizing m with
  | nil => rfl
  | cons w r ih =>
    rw [memWrites, List.foldl_cons]
    have h1 := ih (memWrite_wf h (hw w (by simp)) w.2) (fun x hx => hw x (by simp [hx]))
      (fun x hx => ha x (by simp [hx]))
    rw [memWrites] at h1
    rw [h1, memByte_memWrite h, if_neg (fun e => ha w (by simp) e.symm)]

/-- The byte sum of the addresses below `n` as an iterated sum. -/
theorem memSum_succ (m : Memory) (n : Nat) : memSum m (n + 1) = memSum m n + memByte m n := by
  simp [memSum, List.range_succ, List.map_append, List.foldl_append]

/-- Two memories with the same bytes below `n` have the same sum. -/
theorem memSum_congr {m m' : Memory} {n : Nat} (h : ∀ a, a < n → memByte m a = memByte m' a) :
    memSum m n = memSum m' n := by
  induction n with
  | zero => rfl
  | succ n ih => rw [memSum_succ, memSum_succ, ih (fun a ha => h a (by omega)), h n (by omega)]

/-- Writing the checksum leaves the sum of the 64 bytes at 0x5A (R158). -/
theorem memConsistent_fix {m : Memory} (h : Memory.wf m = true) :
    memConsistent (memWrite m 63 (checksumOf m)) = true := by
  have h1 : memSum (memWrite m 63 (checksumOf m)) 63 = memSum m 63 :=
    memSum_congr (fun a ha => by rw [memByte_memWrite h, if_neg (by omega)])
  have h2 : memByte (memWrite m 63 (checksumOf m)) 63 = checksumOf m := by rw [memByte_memWrite h, if_pos rfl]
  simp only [memConsistent, beq_iff_eq]
  rw [show (64 : Nat) = 63 + 1 from rfl, memSum_succ, h1, h2, checksumOf]
  bv_omega

/-- A complete writer of the memory leaves it consistent (R158). -/
theorem memConsistent_withChecksum {m : Memory} (h : Memory.wf m = true) {ws : List (Nat × Byte)}
    (hw : ∀ w ∈ ws, w.1 < 64) : memConsistent (memWrites m (withChecksum m ws)) = true := by
  rw [withChecksum, memWrites_append]
  exact memConsistent_fix (memWrites_wf h hw)

/-- The writes of a writer with its checksum stay in the memory. -/
theorem withChecksum_lt {m : Memory} {ws : List (Nat × Byte)} (hw : ∀ w ∈ ws, w.1 < 64) :
    ∀ w ∈ withChecksum m ws, w.1 < 64 := by
  intro w h
  simp only [withChecksum, List.mem_append, List.mem_singleton] at h
  rcases h with h | h
  · exact hw w h
  · subst h; exact (by decide : (63 : Nat) < 64)

/-- The bytes of BACKUP-WRITE lie in the host area once its checks have passed (R164). -/
theorem hostBytes_lt {w : Row} (h : w[0].toNat + w[1].toNat ≤ 34) : ∀ x ∈ hostBytes w, x.1 < 64 := by
  intro x hx
  simp only [hostBytes, List.mem_map, List.mem_range] at hx
  obtain ⟨i, hi, rfl⟩ := hx
  simp only
  omega

/-- The bytes of SAVE-CONFIG lie in the image (R159). -/
theorem imageBytes_lt (c : OpConfig) : ∀ x ∈ imageBytes c, x.1 < 64 := by
  intro x hx
  simp only [imageBytes, List.mem_map, List.mem_range] at hx
  obtain ⟨i, hi, rfl⟩ := hx
  simp only
  omega

/-- The count bytes of the reset record lie in it (R162). -/
theorem countAddress_lt {r : ResetReason} {a : Nat} (h : countAddress r = some a) : 60 ≤ a ∧ a ≤ 62 := by
  cases r <;> simp_all [countAddress] <;> omega

/-- The writes of the reset record update stay in the memory (R162). -/
theorem recordWrites_lt (r : ResetReason) (m : Memory) : ∀ x ∈ recordWrites r m, x.1 < 64 := by
  refine withChecksum_lt (fun x hx => ?_)
  cases hc : countAddress r with
  | none =>
    simp only [hc, List.append_nil, List.mem_cons, List.not_mem_nil, or_false] at hx
    rcases hx with rfl | rfl <;> simp
  | some a =>
    have := countAddress_lt hc
    simp only [hc, List.mem_append, List.mem_cons, List.not_mem_nil, or_false] at hx
    rcases hx with (rfl | rfl) | rfl <;> simp only <;> omega

/-- The validation rewrite stays in the memory (R160). -/
theorem validationWrites_lt : ∀ x ∈ validationWrites, x.1 < 64 := by
  intro x hx
  simp only [validationWrites, List.mem_map, List.mem_range] at hx
  obtain ⟨i, hi, rfl⟩ := hx
  exact hi

/-- The writes of a full reset stay in the memory (R177). -/
theorem fullResetWrites_lt (r : ResetReason) (v : Bool) (m : Memory) : ∀ x ∈ fullResetWrites r v m, x.1 < 64 := by
  intro x hx
  simp only [fullResetWrites, List.mem_append] at hx
  rcases hx with hx | hx
  · split at hx
    · exact validationWrites_lt x hx
    · simp at hx
  · exact recordWrites_lt _ _ x hx

/-- The memory after a loss of the battery domain is in its canonical form (R168). -/
theorem arbitraryMemory_wf (n : Nat) : Memory.wf (arbitraryMemory n) = true := by
  refine memWrites_wf rfl (fun x hx => ?_)
  simp only [List.mem_map, List.mem_range] at hx
  obtain ⟨i, hi, rfl⟩ := hx
  exact hi

/-- The memory of the reset state is in its canonical form. -/
theorem reset_memory_wf : Memory.wf State.reset.mem = true := by decide

end Sys2Proof.Machine
end

