-- ==== Sys2Proof/Laws/Schedule.lean ====
section
/-!
SUPPORT. Laws/Schedule.lean: the scan timer's updates field by field, the delivery of a pass as one fold, and the place that
an arriving command takes in the queue.
-/

namespace Sys2Proof.Machine

/-! ### restartScanTimer -/

@[simp] theorem restartScanTimer_scan (s : State) : (restartScanTimer s).scan =
    { s.scan with timer := 0, interval := scanCycles s.cfg, ready := false } := rfl
@[simp] theorem restartScanTimer_pending (s : State) : (restartScanTimer s).pending = s.pending := rfl
@[simp] theorem restartScanTimer_env (s : State) : (restartScanTimer s).env = s.env := rfl
@[simp] theorem restartScanTimer_port (s : State) : (restartScanTimer s).port = s.port := rfl
@[simp] theorem restartScanTimer_mb (s : State) : (restartScanTimer s).mb = s.mb := rfl
@[simp] theorem restartScanTimer_cfg (s : State) : (restartScanTimer s).cfg = s.cfg := rfl
@[simp] theorem restartScanTimer_tr (s : State) : (restartScanTimer s).tr = s.tr := rfl
@[simp] theorem restartScanTimer_tq (s : State) : (restartScanTimer s).tq = s.tq := rfl
@[simp] theorem restartScanTimer_rep (s : State) : (restartScanTimer s).rep = s.rep := rfl
@[simp] theorem restartScanTimer_lv (s : State) : (restartScanTimer s).lv = s.lv := rfl
@[simp] theorem restartScanTimer_id (s : State) : (restartScanTimer s).id = s.id := rfl
@[simp] theorem restartScanTimer_fault (s : State) : (restartScanTimer s).fault = s.fault := rfl
@[simp] theorem restartScanTimer_tk (s : State) : (restartScanTimer s).tk = s.tk := rfl
@[simp] theorem restartScanTimer_mem (s : State) : (restartScanTimer s).mem = s.mem := rfl
@[simp] theorem restartScanTimer_wd (s : State) : (restartScanTimer s).wd = s.wd := rfl
@[simp] theorem restartScanTimer_sup (s : State) : (restartScanTimer s).sup = s.sup := rfl
@[simp] theorem restartScanTimer_starts (s : State) : (restartScanTimer s).starts = s.starts := rfl

/-! ### dropReadyPass -/

@[simp] theorem dropReadyPass_scan (s : State) : (dropReadyPass s).scan =
    { s.scan with ready := false } := rfl
@[simp] theorem dropReadyPass_pending (s : State) : (dropReadyPass s).pending = s.pending := rfl
@[simp] theorem dropReadyPass_env (s : State) : (dropReadyPass s).env = s.env := rfl
@[simp] theorem dropReadyPass_port (s : State) : (dropReadyPass s).port = s.port := rfl
@[simp] theorem dropReadyPass_mb (s : State) : (dropReadyPass s).mb = s.mb := rfl
@[simp] theorem dropReadyPass_cfg (s : State) : (dropReadyPass s).cfg = s.cfg := rfl
@[simp] theorem dropReadyPass_tr (s : State) : (dropReadyPass s).tr = s.tr := rfl
@[simp] theorem dropReadyPass_tq (s : State) : (dropReadyPass s).tq = s.tq := rfl
@[simp] theorem dropReadyPass_rep (s : State) : (dropReadyPass s).rep = s.rep := rfl
@[simp] theorem dropReadyPass_lv (s : State) : (dropReadyPass s).lv = s.lv := rfl
@[simp] theorem dropReadyPass_id (s : State) : (dropReadyPass s).id = s.id := rfl
@[simp] theorem dropReadyPass_fault (s : State) : (dropReadyPass s).fault = s.fault := rfl
@[simp] theorem dropReadyPass_tk (s : State) : (dropReadyPass s).tk = s.tk := rfl
@[simp] theorem dropReadyPass_mem (s : State) : (dropReadyPass s).mem = s.mem := rfl
@[simp] theorem dropReadyPass_wd (s : State) : (dropReadyPass s).wd = s.wd := rfl
@[simp] theorem dropReadyPass_sup (s : State) : (dropReadyPass s).sup = s.sup := rfl
@[simp] theorem dropReadyPass_starts (s : State) : (dropReadyPass s).starts = s.starts := rfl

/-! ### enterHalted -/

@[simp] theorem enterHalted_scan (s : State) : (enterHalted s).scan = { s.scan with ready := false } := by
  unfold enterHalted; split <;> rfl
@[simp] theorem enterHalted_sup (s : State) : (enterHalted s).sup =
    if s.sup.phase = .held then { s.sup with detector := .halted, oscHalt := some (haltDetails s) }
      else { s.sup with detector := .halted, haltReady := true } := by
  unfold enterHalted; split <;> rfl
@[simp] theorem enterHalted_pending (s : State) : (enterHalted s).pending = s.pending := by unfold enterHalted; split <;> rfl
@[simp] theorem enterHalted_env (s : State) : (enterHalted s).env = s.env := by unfold enterHalted; split <;> rfl
@[simp] theorem enterHalted_port (s : State) : (enterHalted s).port = s.port := by unfold enterHalted; split <;> rfl
@[simp] theorem enterHalted_mb (s : State) : (enterHalted s).mb = s.mb := by unfold enterHalted; split <;> rfl
@[simp] theorem enterHalted_cfg (s : State) : (enterHalted s).cfg = s.cfg := by unfold enterHalted; split <;> rfl
@[simp] theorem enterHalted_tr (s : State) : (enterHalted s).tr = s.tr := by unfold enterHalted; split <;> rfl
@[simp] theorem enterHalted_tq (s : State) : (enterHalted s).tq = s.tq := by unfold enterHalted; split <;> rfl
@[simp] theorem enterHalted_rep (s : State) : (enterHalted s).rep = s.rep := by unfold enterHalted; split <;> rfl
@[simp] theorem enterHalted_lv (s : State) : (enterHalted s).lv = s.lv := by unfold enterHalted; split <;> rfl
@[simp] theorem enterHalted_id (s : State) : (enterHalted s).id = s.id := by unfold enterHalted; split <;> rfl
@[simp] theorem enterHalted_fault (s : State) : (enterHalted s).fault = s.fault := by unfold enterHalted; split <;> rfl
@[simp] theorem enterHalted_tk (s : State) : (enterHalted s).tk = s.tk := by unfold enterHalted; split <;> rfl
@[simp] theorem enterHalted_mem (s : State) : (enterHalted s).mem = s.mem := by unfold enterHalted; split <;> rfl
@[simp] theorem enterHalted_wd (s : State) : (enterHalted s).wd = s.wd := by unfold enterHalted; split <;> rfl
@[simp] theorem enterHalted_starts (s : State) : (enterHalted s).starts = s.starts := by unfold enterHalted; split <;> rfl

/-- A halt detection that comes while MAIN-ON, outside part 1 of a full reset, is ready afterwards unless the detector is in
HALTED with none ready; the detector enters HALTED only if none was ready. -/
theorem detectHalt_haltReady (s : State) (h : s.sup.phase ≠ .held) :
    (detectHalt s).sup.haltReady = (s.sup.haltReady || s.sup.detector != .halted) := by
  unfold detectHalt
  split <;> rename_i hc <;> cases hr : s.sup.haltReady <;> simp_all

/-! ### takePass -/

@[simp] theorem takePass_scan (s : State) : (takePass s).scan =
    if s.scan.ready then { s.scan with ready := false }
      else { s.scan with timer := 0, interval := scanCycles s.cfg, ready := false } := by
  unfold takePass restartScanTimer; split <;> rfl
@[simp] theorem takePass_pending (s : State) : (takePass s).pending = s.pending := by unfold takePass; split <;> rfl
@[simp] theorem takePass_env (s : State) : (takePass s).env = s.env := by unfold takePass; split <;> rfl
@[simp] theorem takePass_port (s : State) : (takePass s).port = s.port := by unfold takePass; split <;> rfl
@[simp] theorem takePass_mb (s : State) : (takePass s).mb = s.mb := by unfold takePass; split <;> rfl
@[simp] theorem takePass_cfg (s : State) : (takePass s).cfg = s.cfg := by unfold takePass; split <;> rfl
@[simp] theorem takePass_tr (s : State) : (takePass s).tr = s.tr := by unfold takePass; split <;> rfl
@[simp] theorem takePass_tq (s : State) : (takePass s).tq = s.tq := by unfold takePass; split <;> rfl
@[simp] theorem takePass_rep (s : State) : (takePass s).rep = s.rep := by unfold takePass; split <;> rfl
@[simp] theorem takePass_lv (s : State) : (takePass s).lv = s.lv := by unfold takePass; split <;> rfl
@[simp] theorem takePass_id (s : State) : (takePass s).id = s.id := by unfold takePass; split <;> rfl
@[simp] theorem takePass_fault (s : State) : (takePass s).fault = s.fault := by unfold takePass; split <;> rfl
@[simp] theorem takePass_tk (s : State) : (takePass s).tk = s.tk := by unfold takePass; split <;> rfl
@[simp] theorem takePass_mem (s : State) : (takePass s).mem = s.mem := by unfold takePass; split <;> rfl
@[simp] theorem takePass_wd (s : State) : (takePass s).wd = s.wd := by unfold takePass; split <;> rfl
@[simp] theorem takePass_sup (s : State) : (takePass s).sup = s.sup := by unfold takePass; split <;> rfl
@[simp] theorem takePass_starts (s : State) : (takePass s).starts = s.starts := by unfold takePass; split <;> rfl

/-! ### scanTimerCycle -/

@[simp] theorem scanTimerCycle_scan (s : State) : (scanTimerCycle s).scan =
    if s.scan.interval ≤ s.scan.timer + 1 then { s.scan with timer := 0, interval := scanCycles s.cfg, ready := true }
      else { s.scan with timer := s.scan.timer + 1 } := by
  unfold scanTimerCycle; split <;> rfl
@[simp] theorem scanTimerCycle_pending (s : State) : (scanTimerCycle s).pending = s.pending := by unfold scanTimerCycle; split <;> rfl
@[simp] theorem scanTimerCycle_env (s : State) : (scanTimerCycle s).env = s.env := by unfold scanTimerCycle; split <;> rfl
@[simp] theorem scanTimerCycle_port (s : State) : (scanTimerCycle s).port = s.port := by unfold scanTimerCycle; split <;> rfl
@[simp] theorem scanTimerCycle_mb (s : State) : (scanTimerCycle s).mb = s.mb := by unfold scanTimerCycle; split <;> rfl
@[simp] theorem scanTimerCycle_cfg (s : State) : (scanTimerCycle s).cfg = s.cfg := by unfold scanTimerCycle; split <;> rfl
@[simp] theorem scanTimerCycle_tr (s : State) : (scanTimerCycle s).tr = s.tr := by unfold scanTimerCycle; split <;> rfl
@[simp] theorem scanTimerCycle_tq (s : State) : (scanTimerCycle s).tq = s.tq := by unfold scanTimerCycle; split <;> rfl
@[simp] theorem scanTimerCycle_rep (s : State) : (scanTimerCycle s).rep = s.rep := by unfold scanTimerCycle; split <;> rfl
@[simp] theorem scanTimerCycle_lv (s : State) : (scanTimerCycle s).lv = s.lv := by unfold scanTimerCycle; split <;> rfl
@[simp] theorem scanTimerCycle_id (s : State) : (scanTimerCycle s).id = s.id := by unfold scanTimerCycle; split <;> rfl
@[simp] theorem scanTimerCycle_fault (s : State) : (scanTimerCycle s).fault = s.fault := by unfold scanTimerCycle; split <;> rfl
@[simp] theorem scanTimerCycle_tk (s : State) : (scanTimerCycle s).tk = s.tk := by unfold scanTimerCycle; split <;> rfl
@[simp] theorem scanTimerCycle_mem (s : State) : (scanTimerCycle s).mem = s.mem := by unfold scanTimerCycle; split <;> rfl
@[simp] theorem scanTimerCycle_wd (s : State) : (scanTimerCycle s).wd = s.wd := by unfold scanTimerCycle; split <;> rfl
@[simp] theorem scanTimerCycle_sup (s : State) : (scanTimerCycle s).sup = s.sup := by unfold scanTimerCycle; split <;> rfl
@[simp] theorem scanTimerCycle_starts (s : State) : (scanTimerCycle s).starts = s.starts := by unfold scanTimerCycle; split <;> rfl

/-! ### Delivery (R34) -/

/-- The presses of a pass are one fold over the positions, which carries the state and the faults so far. -/
theorem deliverPresses_foldl (l : List Position) (s : State) (faults : List FaultReport) :
    l.foldl (fun r p => ((pressEvent p r.1).1, r.2 ++ (pressEvent p r.1).2)) (s, faults) =
      ((deliverPresses l s).1, faults ++ (deliverPresses l s).2) := by
  induction l generalizing s faults with
  | nil => simp [deliverPresses]
  | cons p rest ih => simp [deliverPresses, ih, List.append_assoc]

/-! ### One CLK period in the halt detector (R153) -/

/-- The detector and the ready detection after a CLK period: at the count 8192 it enters HALTED, and outside part 1 of a full
reset a detection is then ready. -/
theorem detectPeriod_sup (s : State) : (detectPeriod s).sup.detector =
      (if countReached (detectorPeriod s.env.pins.oscCycle s.sup.detector) then .halted
        else detectorPeriod s.env.pins.oscCycle s.sup.detector) ∧
    (detectPeriod s).sup.haltReady =
      (s.sup.haltReady || (countReached (detectorPeriod s.env.pins.oscCycle s.sup.detector) && s.sup.phase != .held)) := by
  unfold detectPeriod
  cases h : countReached (detectorPeriod s.env.pins.oscCycle s.sup.detector) <;> simp [h]
  constructor <;> split <;> simp_all

/-! ### Arrival in the queue (R4, R5) -/

/-- An arriving command stands right before the first waiting command of lower precedence. -/
theorem insertByPrecedence_split (c : Instr) (q : List Instr) :
    ∃ before after, q = before ++ after ∧ insertByPrecedence c q = before ++ c :: after ∧
      (∀ d ∈ before, precedence (kindOf d) ≤ precedence (kindOf c)) ∧
      ∀ d, after.head? = some d → precedence (kindOf c) < precedence (kindOf d) := by
  induction q with
  | nil => exact ⟨[], [], rfl, rfl, by simp, by simp⟩
  | cons d rest ih =>
    by_cases h : precedence (kindOf c) < precedence (kindOf d)
    · exact ⟨[], d :: rest, rfl, by simp [insertByPrecedence, h], by simp, by simpa using h⟩
    · obtain ⟨before, after, h1, h2, h3, h4⟩ := ih
      refine ⟨d :: before, after, by simp [h1], by simp [insertByPrecedence, h, h2], ?_, h4⟩
      intro e he
      rcases List.mem_cons.mp he with rfl | he
      · omega
      · exact h3 e he

end Sys2Proof.Machine
end

