-- ==== Sys2Proof/Tests/Slice0.lean ====
section
/-!
SUPPORT. Tests/Slice0.lean: ill-formed commands refused, the manual's worked examples step by step (each names its
section), and for each statement with hypotheses a state that meets them.
-/

namespace Sys2Proof.Machine.Tests

/-! ### Helpers -/

/-- The state that a command leaves. -/
def after (o : Host.Outcome State Fault Refusal) : State :=
  match o with
  | .next t => t
  | _ => State.reset

/-- From reset, the mailbox command of `code` started with the working copy `args`. -/
def begun (code : Byte) (args : Row) : State :=
  { State.reset with mb := { state := .busy, running := some code, work := args } }

/-- From reset, with the given supervisor. -/
def withSup (u : Supervisor) : State := { State.reset with sup := u }

/-- From reset, with a class table, a list of modifier keys and a configuration. -/
def typing (classes : Table KeyClass) (mods : List (Position × ModClass)) (cfg : OpConfig) : State :=
  { State.reset with cfg := cfg, tr := { classes := classes, modKeys := mods } }

/-- A full queue but for `free` records. -/
def queued (free : Nat) : List QRecord := List.replicate (32 - free) { token := 7, source := .host, position := none, mods := none }

/-- In the stretch of nHRST after a watchdog reset. -/
def stretched : State := withSup { phase := .stretch, reason := some .watchdog }

/-- Held in part 1 of a full reset with a reason. -/
def heldWith (r : ResetReason) : State := withSup { phase := .held, reason := some r, oscSeen := true }

/-- The engine runs for a level, with the cycle given. -/
def identifying (l : Level) (c : Option ChainCycle) : State :=
  { State.reset with id := { state := .run, level := some l, cycle := c } }

/-! ### Ill-formed commands -/

theorem test_wellFormed_registerWrite :
    (Instr.registerWrite 0x04#6 1).wellFormed = false ∧ (Instr.registerWrite 0x1F#6 1).wellFormed = false ∧
    (Instr.registerWrite 0x1F#6 2).wellFormed = true ∧ (Instr.registerWrite 0x08#6 1).wellFormed = true := by decide
theorem test_wellFormed_lowByteWrite :
    (Instr.lowByteWrite 0x27#6 1).wellFormed = false ∧ (Instr.lowByteWrite 0x26#6 1).wellFormed = true := by decide
theorem test_wellFormed_lowByteRead :
    (Instr.lowByteRead 0x21#6).wellFormed = false ∧ (Instr.lowByteRead 0x2A#6).wellFormed = true := by decide
theorem test_wellFormed_clock_cut :
    (Instr.setTime (some 2)).wellFormed = false ∧ (Instr.setTime (some 1)).wellFormed = true := by decide
theorem test_wellFormed_backupWrite_cut :
    (Instr.backupWrite (some 8)).wellFormed = false ∧ (Instr.backupWrite (some 7)).wellFormed = true := by decide
theorem test_wellFormed_clearResetRecord_cut :
    (Instr.clearResetRecord (some 5)).wellFormed = false ∧ (Instr.clearResetRecord (some 4)).wellFormed = true := by decide
theorem test_wellFormed_saveConfig_cut :
    (Instr.saveConfig (some 26)).wellFormed = false ∧ (Instr.saveConfig (some 25)).wellFormed = true := by decide
theorem test_wellFormed_fullResetSequence_cut :
    (Instr.fullResetSequence (some 71)).wellFormed = false ∧ (Instr.fullResetSequence (some 70)).wellFormed = true := by
  decide
theorem test_wellFormed_hostSideReset_cut :
    (Instr.hostSideReset (some 5)).wellFormed = false ∧ (Instr.hostSideReset (some 4)).wellFormed = true := by decide

/-! ### Worked examples of the manual -/

/-- Section 8.12: the leap day at midnight, and the same carry in year 25. -/
theorem test_leap_day :
    carrySecond { second := 59, minute := 59, hour := 23, day := 28, month := 2, year := 24, weekday := 3 } =
      { second := 0, minute := 0, hour := 0, day := 29, month := 2, year := 24, weekday := 4 } ∧
    carrySecond { second := 59, minute := 59, hour := 23, day := 28, month := 2, year := 25, weekday := 3 } =
      { second := 0, minute := 0, hour := 0, day := 1, month := 3, year := 25, weekday := 4 } := by decide

/-- Section 8.12: that tick latches DAY-CHANGE, ALARM and TICK, and the alarm stays armed. -/
theorem test_leap_day_tick :
    let s := { State.reset with
      cfg := { tickRate := 1 }
      tk := { cal := { second := 59, minute := 59, hour := 23, day := 28, month := 2, year := 24, weekday := 3 }
              sub := 63, alarm := { minute := some 0, second := some 0, armed := true } } }
    (after (exec .timebaseTick s)).lv.latches = 0x01C0 ∧ (after (exec .timebaseTick s)).tk.alarm.armed = true := by decide

set_option maxRecDepth 20000 in
/-- Section 9.10: the update with reason WATCHDOG after COLD leaves 6, 1, 1, 0, 0 and the checksum 0x19. -/
theorem test_reset_record_watchdog :
    let m := memWrites [] (recordWrites .watchdog (memWrites [] (recordWrites .cold [])))
    [58, 59, 60, 61, 62, 63].map (memByte m) = [6, 1, 1, 0, 0, 0x19] := by decide

set_option maxRecDepth 20000 in
/-- Section 9.10: the next one with reason BROWN-OUT leaves 3, 6, 1, 1, 0 and 0x16, and a CLEAR-RESET-RECORD then 0x18. -/
theorem test_reset_record_brownout :
    let m := memWrites [(58, 6#8), (59, 1), (60, 1), (63, 0x19)] (recordWrites .brownOut [(58, 6#8), (59, 1), (60, 1), (63, 0x19)])
    [58, 59, 60, 61, 62, 63].map (memByte m) = [3, 6, 1, 1, 0, 0x16] ∧
    memByte (memWrites m (withChecksum m [(60, 0), (61, 0), (62, 0)])) 63 = 0x18 := by decide

/-- Section 11.10: the digits 3, 1, 2, 2, 1 collect 3, 31, 56, 50, 245. -/
theorem test_compose_digits :
    [3, 1, 2, 2, 1].foldl (fun s d => addDigit d s) State.reset =
      { State.reset with tr := { acc := 245, digits := 5 } } := by decide

/-- Section 11.10: the release of ALT-L then offers the COMPOSE record 0x00F5 with alt 0. -/
theorem test_compose_release :
    (releaseEvent 5 { State.reset with tr := { modKeys := [(5, .altL)], acc := 245, digits := 5 } }).tq.records =
      [{ token := 0x00F5, source := .compose, position := none,
         mods := some { shift := false, ctrl := false, alt := false, caps := false, num := false } }] := by decide

/-- Section 11.10: with alt held, a press of 40 gives the KEY record 0x0428 of the ALT column. -/
theorem test_alt_column :
    (pressEvent 40 (typing [] [(5, .altL)] {})).1.tq.records.map (·.token) = [0x0428] := by decide

/-- Section 11.11: on a full queue the KEY record of 21 is discarded, and its repeat is armed with 16 ticks. -/
theorem test_queue_overflow :
    let u := (pressEvent 21 { State.reset with cfg := { repeatDelay := 0 }, tq := { records := queued 0 } }).1
    u.tq.lost = 1 ∧ u.lv.latches = 0x0004 ∧ u.tq.records.length = 32 ∧ repeatPosition u.rep = 21 := by decide

/-- Section 3.14: the HOLD chord enters HELD. -/
theorem test_hold_chord :
    let s := typing [(19, .letter)] [(2, .ctrlL)]
      { chords := #v[{ ctrl := true, position := 19, action := .hold, enabled := true }, {}, {}, {}] }
    (pressEvent 19 s).1.tr.held = true ∧ (pressEvent 19 s).1.lv.latches = 0x0010 ∧
    (pressEvent 19 s).1.tq.records = [] := by decide

/-- Section 5.12, step 2: LVACC returns 2 and nINT is released. -/
theorem test_accept :
    let s := { State.reset with
      tq := { records := queued 31 }
      lv := { routes := #v[2, 15, 15, 15, 15, 15, 15, 15, 15, 9, 15, 2, 15], enables := 0x8204, switch := true
              nint := true } }
    (after (exec .accept s)).port.dataBus = 2 ∧ (after (exec .accept s)).lv.nint = false := by decide

/-- Section 6.8: the nine samples 0,0,1,0,0,0,0,1 and parity 1 identify device 0x21. -/
theorem test_chain_completion :
    let s := identifying 9 (some { cls := .a, phase := .settling (.shifted 0b001000011#9) })
    (after (exec .chainCycleCompletion s)).id.source = 0x09 ∧ (after (exec .chainCycleCompletion s)).id.code = 0x21 := by
  decide

/-- Section 6.9: an unanswered cycle captures CHAIN-TIMEOUT with detail A 0 and detail B 9. -/
theorem test_chain_timeout :
    (after (exec .chainCycleCompletion (identifying 9 (some { cls := .a, phase := .settling .timeout })))).fault =
      { cause := some .chainTimeout, origin := some .identify, detailA := 0, detailB := 9, locked := true } := by decide

/-- Section 7.8, step 2: the code 0x99 is captured as BAD-COMMAND, and nINT is asserted. -/
theorem test_bad_command :
    (after (exec .badCommand (begun 0x99 Row.zero))).fault =
      { cause := some .badCommand, origin := some .mailbox, detailA := 0x99, detailB := 0, locked := true } ∧
    (after (exec .badCommand (begun 0x99 Row.zero))).lv.nint = true := by decide

/-- Section 10.9, tick 64: the first expiry of a period of 64 ticks. -/
theorem test_watchdog_warns :
    let s := { State.reset with wd := { state := .armed, count := 63, active := 1, pending := 1 } }
    (after (exec .timebaseTick s)).wd = { state := .warned, count := 0, active := 1, pending := 1 } ∧
    (after (exec .timebaseTick s)).lv.nint = true := by decide

/-- Section 4.10, tick 40: with eight records in the queue the throttle skips the repeat. -/
theorem test_repeat_throttled :
    let r : QRecord := { token := 0x0128, source := .repeated, position := some 40, mods := none }
    let s := { State.reset with tq := { records := queued 24 }, rep := .armed .repeating 40 r 1 }
    (after (exec .repeatExpiry s)).tq = s.tq ∧ (after (exec .repeatExpiry s)).rep = .armed .repeating 40 r 4 := by decide

/-- Section 11.9: in the press stage of pass N, 36 is a ghost, 90 is the eighth key and 100 is blocked. -/
theorem test_ghost_and_rollover :
    let tracked : Table PosState := [(9, .down), (12, .down), (33, .down), (50, .down), (51, .down)]
    let image := BitVec.ofNat 128 (2^9 + 2^12 + 2^33 + 2^50 + 2^51 + 2^36 + 2^70 + 2^80 + 2^90 + 2^100)
    let r := [36, 70, 80, 90, 100].foldl (pressAt { State.reset with cfg := { debounce := 1 } } image) { positions := tracked }
    r.presses = [70, 80, 90] ∧ r.blocked = some 100 ∧ posOf r.positions 36 = .blockedGhost ∧
    posOf r.positions 100 = .blockedRollover := by decide

/-! ### Witnesses: the hypotheses of each statement can be met -/

/-- After reset the main domain runs. -/
theorem runs_reset : Runs State.reset := by unfold Runs; decide

theorem witness_IdleStepTakesTheHighestPrecedence :
    State.reset.pending = [] ∧ readySteps State.reset = [] ∧
    (begun 0x01 Row.zero).pending = [] ∧ Instr.echo ∈ readySteps (begun 0x01 Row.zero) := by decide

theorem witness_ArrivalKeepsPrecedenceAndResetDiscards :
    let busy := { State.reset with pending := [.nreset, .tqlostRead] }
    let stopped := { State.reset with pending := [.haltDetection, .registerWrite 0x1F#6 0] }
    let held := withSup { phase := .held }
    QueueOrdered [.accept, .timebaseTick, .echo] ∧ ¬ DiscardedOnArrival State.reset (.scanPass 0) ∧
    (Begins busy true .nreset ∧ MainDomainStep .accept ∧ DiscardedOnArrival busy .accept ∧
      DiscardedOnArrival busy .haltDetection) ∧
    (WritesStop .scancStop ∧ DiscardedOnArrival stopped (.scanPass 0)) ∧
    Begins (withSup { request := some .chord }) false (.hostSideReset none) ∧
    EndsPartOne held (.fullResetSequence none) ∧ held.sup.phase = .held := by
  refine ⟨by unfold QueueOrdered; decide, ?_, ⟨?_, ?_, ?_, ?_⟩, ⟨?_, ?_⟩, ?_, ?_, rfl⟩
  · simp [DiscardedOnArrival, PassesEnded, State.reset]
  · exact .inl ⟨rfl, rfl, by decide⟩
  · exact .inl rfl
  · exact .inl ⟨.inl rfl, .nreset, by simp, .inr ⟨true, .inl ⟨rfl, rfl, by decide⟩⟩⟩
  · exact .inr (.inl ⟨rfl, .nreset, by simp, .inl ⟨rfl, rfl, by decide⟩⟩)
  · exact .inl rfl
  · exact .inr (.inr ⟨rfl, .inl ⟨.registerWrite 0x1F#6 0, by simp, .inr (.inl rfl)⟩⟩)
  · exact ⟨⟨none, rfl⟩, rfl, by decide, rfl, .inr rfl⟩
  · exact ⟨⟨none, rfl⟩, .inr rfl⟩

/-- R7: a host access and a halt detection that become ready with an NRESET never take place, whichever comes first; R155,
R176: an NRESET that only merges in part 1 leaves a halt to the oscillator check. -/
theorem test_reset_discards_whatever_the_arrival_order :
    (([.tqlostRead, .nreset, .accept, .haltDetection, .timebaseTick] : List Instr).foldl
      (fun s c => State.submit c s) State.reset).pending = [.nreset, .timebaseTick] ∧
    (([.haltDetection, .nreset, .accept, .fullResetSequence none] : List Instr).foldl
      (fun s c => State.submit c s) (withSup { phase := .held })).pending =
      [.nreset, .fullResetSequence none, .haltDetection] := by decide

/-- R37: a pass that waits when SCANC is written with 0x00 never takes place, even after a start. -/
theorem test_stop_discards_the_waiting_pass :
    (([.scanPass 1, .scancStop, .scancRun] : List Instr).foldl (fun s c => State.submit c s) State.reset).pending =
      [.scancStop, .scancRun] ∧
    (State.submit (.scanPass 1) { State.reset with pending := [.scancStop, .scancRun] }).pending =
      [.scancStop, .scancRun] := by decide

/-- R37: a pass ready inside this LSI is discarded by the write, and not ready after a start. -/
theorem test_stop_discards_the_ready_pass :
    let s := { State.reset with scan := { ready := true } }
    Instr.scanPass 0 ∈ readySteps s ∧ (after (exec .scancRun (after (exec .scancStop s)))).scan.ready = false := by decide

/-- R23: at the period the pass is ready and the timer restarts; R24: with the new SCAN-PERIOD. -/
theorem test_scan_timer_restarts_at_once :
    let s := { State.reset with cfg := { scanPeriod := 2 }, scan := { timer := 255 } }
    (clkPeriod s).scan = { timer := 0, interval := 512, ready := true } := by decide

/-- R23, R39: a pass ready at a halt detection is not ready at the resume. -/
theorem test_halt_drops_the_ready_pass :
    let s := { State.reset with scan := { ready := true } }
    readySteps (after (exec .oscillatorResume (after (exec .haltDetection s)))) = [] := by decide

/-- R153: at the count 8192 the detector enters HALTED and the detection is ready; an oscillator cycle before it is taken ends
HALTED and leaves the detection. -/
theorem test_ready_halt_survives_the_resume :
    let s := clkPeriod { withSup { detector := .watching 8191 } with env := { pins := { oscCycle := false } } }
    let t := after (exec .oscillatorResume s)
    s.sup.detector = .halted ∧ readySteps s = [.haltDetection] ∧ readySteps t = [.haltDetection] ∧
    (after (exec .haltDetection t)).sup.detector = .watching 0 ∧
    (after (exec .haltDetection t)).fault.cause = some .clockHalt := by decide

/-- R154: a halt detection that comes with a host-side reset requested is taken after its sequence. -/
theorem test_halt_waits_for_the_host_side_reset :
    let s := after (exec .haltDetection (withSup { request := some .watchdog }))
    s.fault.locked = false ∧ (after (exec (.hostSideReset none) s)).sup.haltReady = true ∧
    readySteps (after (exec (.hostSideReset none) s)) = [.haltDetection] := by decide

/-- R7, R176: nRESET meets a waiting host-side reset: one full reset, reason PIN, and one record update. -/
theorem test_nreset_merges_with_the_host_side_reset :
    let s := { withSup { request := some .watchdog } with pending := [.hostSideReset none] }
    let t := after (step (State.submit .nreset s))
    t.sup.reason = some .pin ∧ t.sup.phase = .held ∧ t.pending = [.hostSideReset none] ∧
    (after (step t)).sup.phase = .held ∧ (after (step t)).mem = s.mem := by decide

/-- R167: an absent VBAT samples low whatever the comparator says. -/
theorem test_absent_battery_samples_low :
    let s := { State.reset with
      env := { pins := { vbatPresent := false } }, tk := { cal := { second := 59 }, sub := 63 } }
    (after (exec .timebaseTick s)).sup.batLow = true := by decide

theorem witness_ClosedPortIgnoresEveryAccess :
    PortClosed stretched ∧ kindOf .accept = .hostAccess ∧ kindOf (.release 0) = .hostAccess ∧
    (heldWith .pin).sup.power = .mainOn ∧ (heldWith .pin).sup.phase = .held ∧
    (withSup { power := .brownOut, phase := .held }).sup.power = .brownOut := by
  unfold PortClosed Runs; decide

theorem witness_PlainWritesStoreTheirByte :
    PortOpen State.reset ∧ (Instr.registerWrite 0x08#6 7).wellFormed = true ∧
    (Instr.registerWrite 0x0F#6 7).wellFormed = true ∧ (Instr.registerWrite 0x10#6 7).wellFormed = true ∧
    (Instr.registerWrite 0x1F#6 0xFF).wellFormed = true ∧ (Instr.lowByteWrite 0x34#6 7).wellFormed = true ∧
    State.reset.cfg.lampMode = 0 ∧ PortOpen (typing [] [] { lampMode := 1 }) ∧
    (typing [] [] { lampMode := 1 }).cfg.lampMode = 1 := by
  unfold PortOpen Runs; decide

theorem witness_ReadsReturnTheRegistersValue :
    PortOpen State.reset ∧ (Instr.lowByteRead 0x02#6).wellFormed = true ∧ (Instr.lowByteRead 0x08#6).wellFormed = true ∧
    (Instr.lowByteRead 0x0F#6).wellFormed = true ∧ (Instr.lowByteRead 0x10#6).wellFormed = true ∧
    (Instr.lowByteRead 0x17#6).wellFormed = true ∧ (Instr.lowByteRead 0x3D#6).wellFormed = true ∧
    (Instr.lowByteRead 0x3F#6).wellFormed = true ∧ 0x3F#6 ∈ unreadableAddresses ∧
    (plainRegisters State.reset).map (·.1) =
      [0x00#6, 0x01#6, 0x03#6, 0x05#6, 0x18#6, 0x1B#6, 0x1C#6, 0x1D#6, 0x1F#6, 0x20#6, 0x23#6, 0x24#6, 0x2B#6, 0x31#6,
        0x33#6, 0x37#6, 0x38#6, 0x39#6, 0x3A#6, 0x3B#6, 0x3C#6, 0x3D#6] := by
  unfold PortOpen Runs; decide

theorem witness_CommandWriteStartsOrIsRejected :
    PortOpen State.reset ∧ State.reset.mb.state ≠ .busy ∧ PortOpen (begun 0x20 Row.zero) ∧
    (begun 0x20 Row.zero).mb.state = .busy ∧ (begun 0x20 Row.zero).mb.running = some 0x20 := by
  unfold PortOpen Runs; decide

theorem witness_BadCodesAndArgumentsAreReported :
    Started 0x71 (begun 0x71 Row.zero) ∧ commandOf 0x71 = none ∧ commandOf 0x00 = none ∧
    CommandCode 0x60 .setConfig ∧ Started 0x60 (begun 0x60 #v[13, 0, 0, 0, 0, 0, 0, 0]) ∧
    badIndex (begun 0x60 #v[13, 0, 0, 0, 0, 0, 0, 0]) .setConfig = some 0 ∧
    badIndex (begun 0x60 #v[12, 2, 0, 0, 0, 0, 0, 0]) .setConfig = some 1 ∧
    badIndex (begun 0x41 #v[25, 2, 29, 0, 0, 0, 0, 0]) (.setDate none) = some 2 ∧
    badIndex (begun 0x50 #v[63, 2, 0, 0, 0, 0, 0, 0]) .backupRead = some 1 ∧
    badIndex (begun 0x46 #v[0x40, 0, 0, 0, 0, 0, 0, 0]) (.setAdjust none) = some 0 := by
  unfold Started Runs CommandCode; decide

theorem witness_EchoReturnsTheSnapshot :
    let t := after (exec (.mbcmdWrite 0x01) State.reset)
    Started 0x01 (begun 0x01 Row.zero) ∧ PortOpen State.reset ∧ State.reset.mb.state ≠ .busy ∧
    (Instr.registerWrite 0x08#6 9).wellFormed = true ∧ exec (.mbcmdWrite 0x01) State.reset = .next t ∧
    exec (.registerWrite 0x08#6 9) t = .next (after (exec (.registerWrite 0x08#6 9) t)) := by
  refine ⟨?_, ?_, ?_, ?_, rfl, rfl⟩
  · unfold Started Runs; decide
  · unfold PortOpen Runs; decide
  · decide
  · decide

theorem witness_ConfigCommandsWriteAndReadOneField :
    Started 0x60 (begun 0x60 #v[3, 16, 0, 0, 0, 0, 0, 0]) ∧
    badIndex (begun 0x60 #v[3, 16, 0, 0, 0, 0, 0, 0]) .setConfig = none ∧
    badIndex (begun 0x60 #v[3, 8, 0, 0, 0, 0, 0, 0]) .setConfig = none ∧
    Started 0x61 (begun 0x61 #v[12, 0, 0, 0, 0, 0, 0, 0]) ∧
    badIndex (begun 0x61 #v[12, 0, 0, 0, 0, 0, 0, 0]) .readConfig = none := by
  unfold Started Runs; decide

theorem tables_of_reset {s : State} (h : s.mem = State.reset.mem) (h1 : s.scan.positions = []) (h2 : s.tr.classes = [])
    (h3 : s.tr.entries = []) : TablesCanonical s := by
  unfold TablesCanonical; rw [h, h1, h2, h3]; decide

theorem witness_EntryCommandsWriteAndReadOneEntry :
    let s := begun 0x10 #v[127, 4, 0x34, 0x12, 0, 0, 0, 0]
    let bad := { begun 0x11 Row.zero with tr := { entries := [(0, ⟨0x0041, false⟩)] } }
    TablesCanonical s ∧ Started 0x10 s ∧ badIndex s .loadEntry = none ∧
    Started 0x11 (begun 0x11 Row.zero) ∧ badIndex (begun 0x11 Row.zero) .readEntry = none ∧
    parityGood (entryAt (begun 0x11 Row.zero) 0 0) = true ∧
    Started 0x11 bad ∧ badIndex bad .readEntry = none ∧ parityGood (entryAt bad 0 0) = false := by
  refine ⟨tables_of_reset rfl rfl rfl rfl, ?_⟩
  unfold Started Runs; decide

theorem witness_ClassCommandsAndTheBuiltInLayout :
    let s := begun 0x12 #v[127, 2, 9, 0, 0, 0, 0, 0]
    TablesCanonical s ∧ Started 0x12 s ∧ badIndex s (.setClass) = none ∧
    badIndex (begun 0x12 #v[0, 13, 255, 0, 0, 0, 0, 0]) .setClass = none ∧
    Started 0x13 (begun 0x13 #v[127, 0, 0, 0, 0, 0, 0, 0]) ∧
    argNat (begun 0x13 #v[127, 0, 0, 0, 0, 0, 0, 0]) 0 = (127 : Position).val ∧ Started 0x14 (begun 0x14 Row.zero) := by
  refine ⟨tables_of_reset rfl rfl rfl rfl, ?_⟩
  unfold Started Runs; decide

theorem witness_ChordCommandsWriteAndReadOneEntry :
    let s := begun 0x15 #v[3, 7, 127, 3, 1, 0, 0, 0]
    Started 0x15 s ∧ badIndex s .setChord = none ∧ Started 0x16 (begun 0x16 #v[3, 0, 0, 0, 0, 0, 0, 0]) ∧
    argNat (begun 0x16 #v[3, 0, 0, 0, 0, 0, 0, 0]) 0 = (3 : Fin 4).val := by
  unfold Started Runs; decide

theorem witness_SetLocksGivesTheMaskedToggles :
    Started 0x17 (begun 0x17 #v[16, 0, 0, 0, 0, 0, 0, 0]) ∧ 15 < argNat (begun 0x17 #v[16, 0, 0, 0, 0, 0, 0, 0]) 0 ∧
    15 < argNat (begun 0x17 #v[15, 16, 0, 0, 0, 0, 0, 0]) 1 ∧ argNat (begun 0x17 #v[15, 15, 0, 0, 0, 0, 0, 0]) 1 ≤ 15 := by
  unfold Started Runs; decide

theorem witness_ReadKeystateReturnsTheKeyState : Started 0x18 (begun 0x18 Row.zero) := by unfold Started Runs; decide

theorem witness_EndHoldLeavesHeld :
    Started 0x19 { begun 0x19 Row.zero with tr := { held := true } } ∧ Started 0x19 (begun 0x19 Row.zero) := by
  unfold Started Runs; decide

theorem witness_ColumnFollowsClassHeldSetAndLocks :
    altHeld (typing [] [(5, .altL)] {}) = true ∧ ctrlHeld (typing [] [(2, .ctrlR)] { lockMode := 1 }) = true ∧
    altHeld (typing [] [(2, .ctrlR)] { lockMode := 1 }) = false ∧ altHeld State.reset = false ∧
    ctrlHeld State.reset = false ∧ State.reset.cfg.lockMode = 0 := by decide

theorem witness_ConsumedPressesChangeOnlyTheirOwnState :
    let s := typing [(9, .shiftL), (10, .caps)] [] {}
    ({ s with tr := { s.tr with held := true } } : State).tr.held = true ∧ modifierOf (classOf s 11) = none ∧
    modifierOf (classOf s 9) = some .shiftL ∧ s.tr.held = false ∧ classOf s 10 = .caps := by decide

theorem witness_UnchordedPressTranslates :
    let s := typing [(7, .keypad (some 1))] [] {}
    let bad := { s with tr := { s.tr with entries := [(0, ⟨0x0041, false⟩)] } }
    s.tr.held = false ∧ findChord 7 s = none ∧ classOf s 7 = .keypad (some 1) ∧ altHeld s = false ∧
    parityGood (entryAt s 7 0) = true ∧ (entryAt s 7 0).value.toNat < 0x8000 ∧ s.tq.records.length < 32 ∧
    parityGood (entryAt s 7 4) = true ∧ 0x8000 ≤ (entryAt s 7 4).value.toNat ∧
    classOf bad 0 = .plain ∧ findChord 0 bad = none ∧ parityGood (entryAt bad 0 0) = false ∧
    32 ≤ (queued 0).length := by decide

theorem witness_FirstMatchingChordActs :
    let entry (a : ChordAction) : Chord := { position := 7, action := a, enabled := true }
    let s := typing [] [] { chords := #v[{}, entry .attention, entry .hold, entry .hostReset] }
    s.tr.held = false ∧ classOf s 7 = .plain ∧ findChord 7 s = some 1 ∧
    findChord 7 (typing [] [] { chords := #v[entry .flushMark, {}, {}, {}] }) = some 0 ∧
    findChord 7 (typing [] [] { chords := #v[{}, {}, entry .hold, {}] }) = some 2 ∧
    findChord 7 (typing [] [] { chords := #v[{}, {}, {}, entry .hostReset] }) = some 3 ∧ s.sup.request = none := by
  decide

theorem witness_ComposeCollectsDigitsUntilAltEnds :
    let s := typing [(97, .keypad (some 9))] [(5, .altL)] {}
    let full := { s with tr := { modKeys := [(5, .altL)], acc := 7, digits := 1 }, tq := { records := queued 0 } }
    s.tr.held = false ∧ s.cfg.compose = 1 ∧ classOf s 97 = .keypad (some 9) ∧ altHeld s = true ∧ ctrlHeld s = false ∧
    shiftHeld s = false ∧ findChord 97 s = none ∧ s.tr.modKeys.filter (fun k => k.1 != 5) = [] ∧ s.tr.digits = 0 ∧
    full.tr.digits ≠ 0 ∧ full.tr.acc ≠ 0 ∧ 32 ≤ full.tq.records.length ∧
    altHeld (typing [] [(5, .altL)] { compose := 0 }) = true ∧ altHeld (typing [] [(5, .shiftL)] {}) = false := by
  decide

/-- R60, R75: the COMPOSE record on a full queue is counted and latched. -/
theorem test_compose_on_a_full_queue :
    let u := releaseEvent 5 { State.reset with
      tr := { modKeys := [(5, .altL)], acc := 7, digits := 1 }, tq := { records := queued 0, lost := 254 } }
    u.tq.lost = 255 ∧ u.lv.latches = 0x0004 ∧ u.tr.acc = 0 ∧ u.tq.records.length = 32 := by decide

theorem passReady_reset : PassReady State.reset := by unfold PassReady PortOpen Runs NotHalted; decide

theorem witness_ScanPassKeepsItsBounds :
    let s := { State.reset with scan := { ready := true, positions := [(2, .pressing 1), (9, .releasing 1)] } }
    PassReady State.reset ∧ State.reset.scan.ready = false ∧ PassReady s ∧ s.scan.ready = true ∧ TablesCanonical s := by
  refine ⟨passReady_reset, rfl, ?_, rfl, ?_⟩
  · unfold PassReady PortOpen Runs NotHalted; decide
  · unfold TablesCanonical; decide

theorem witness_PositionsFollowTheTwoStages :
    let s := { State.reset with scan := { positions := [(0, .down), (1, .releasing 1), (2, .pressing 1), (127, .blockedGhost)] } }
    TablesCanonical s ∧ PassReady s ∧ exec (.scanPass 0) s = .next (after (exec (.scanPass 0) s)) ∧
    posOf s.scan.positions 0 = .down ∧ posOf s.scan.positions 1 = .releasing 1 ∧
    isTracked (posOf s.scan.positions 2) = false ∧ classOf s 0 ≠ .unused := by
  refine ⟨?_, ?_, rfl, ?_⟩
  · unfold TablesCanonical; decide
  · unfold PassReady PortOpen Runs NotHalted; decide
  · decide

/-- A position seen down alone is not ambiguous. -/
theorem not_ambiguous_alone (s : State) (p : Position) : ¬ Ambiguous s (1#128 <<< p.val) p := by
  rintro ⟨q, r, c, hq, -, -, -, hne, -⟩
  have h := hq.1
  rw [BitVec.getLsbD_shiftLeft, BitVec.getLsbD_one] at h
  simp only [Bool.and_eq_true, decide_eq_true_eq, Bool.not_eq_true', decide_eq_false_iff_not] at h
  exact hne (by omega)

/-- A qualifying position that is not ambiguous, with room and with eight keys tracked (R28). -/
theorem witness_rollover_at_its_own_place :
    let s (l : Table PosState) := { State.reset with scan := { positions := l } }
    let eight : Table PosState := [(2, .pressing 1), (8, .down), (16, .down), (24, .down), (32, .down), (40, .down),
      (48, .down), (56, .down), (64, .down)]
    posOf (s [(2, .pressing 1)]).scan.positions 2 = .pressing 1 ∧ (s []).cfg.debounce.toNat ≤ 1 + 1 ∧
    ¬ Ambiguous (s eight) (1#128 <<< (2 : Position).val) 2 ∧ SeenDown (s eight) (1#128 <<< (2 : Position).val) 2 ∧
    classOf (s eight) 2 ≠ .unused ∧ TablesCanonical (s eight) ∧ PassReady (s eight) := by
  refine ⟨?_, ?_, not_ambiguous_alone _ _, ?_, ?_, ?_, ?_⟩
  · decide
  · decide
  · unfold SeenDown; decide
  · decide
  · unfold TablesCanonical; decide
  · unfold PassReady PortOpen Runs NotHalted; decide

theorem witness_ScanControlStopsAndStarts :
    PortOpen State.reset ∧ State.reset.scan.run = true ∧
    PortOpen { State.reset with scan := { run := false } } := by
  unfold PortOpen Runs; decide

theorem witness_QueueAccessesFollowTheirRules :
    Started 0x20 { begun 0x20 Row.zero with tq := { records := queued 1 } } ∧ (queued 1).length < 32 ∧
    Started 0x20 { begun 0x20 Row.zero with tq := { records := queued 0 } } ∧ 32 ≤ (queued 0).length ∧
    Started 0x21 (begun 0x21 Row.zero) ∧ PortOpen State.reset := by
  unfold Started PortOpen Runs; decide

theorem witness_RepeatExpiryOffersOrSkips :
    let r : QRecord := { token := 1, source := .repeated, position := some 4, mods := none }
    let s := { State.reset with rep := .armed .delay 4 r 1 }
    let full := { s with cfg := { repeatThrottle := 0 }, tq := { records := queued 0 } }
    Runs s ∧ NotHalted s ∧ s.rep = .armed .delay 4 r 1 ∧ s.tq.records.length < s.cfg.repeatThrottle.toNat ∧
    Runs full ∧ NotHalted full ∧ full.rep = .armed .delay 4 r 1 ∧ full.cfg.repeatThrottle = 0 ∧
    32 ≤ full.tq.records.length := by
  unfold Runs NotHalted; decide

theorem witness_PendingAndEligibleLevels :
    let s := { State.reset with
      cfg := { watermark := 32, chain := 1 }, tq := { records := queued 0 }
      lv := { latches := 0x39FC, atnA := true }, fault := { cause := some .sequence, locked := true } }
    LevelsLegal s ∧ LevelsLegal State.reset ∧ sourceWord s = 0x7BFF ∧ sourceWord State.reset = 0 := by
  unfold LevelsLegal; decide

theorem witness_LevelRegisterWritesChangeTheirWord : PortOpen State.reset := by unfold PortOpen Runs; decide

theorem witness_AcceptPushesAndReleasePops :
    let s := { State.reset with lv := { soft := 0x8000, stack := [3] } }
    PortOpen s ∧ eligible s 15 = true ∧ (∀ m, eligible s m = true → m ≤ 15) ∧ (seenPins s).vddLow = false ∧
    (seenPins s).atnA = s.lv.atnA ∧ (seenPins s).atnB = s.lv.atnB ∧ s.lv.stack = 3 :: [] ∧
    (∀ l, eligible State.reset l = false) ∧ State.reset.lv.stack = [] := by
  unfold PortOpen Runs; decide

theorem witness_RouteCommandsWriteAndReadOneRoute :
    Started 0x30 (begun 0x30 #v[12, 15, 0, 0, 0, 0, 0, 0]) ∧
    badIndex (begun 0x30 #v[12, 15, 0, 0, 0, 0, 0, 0]) .setRoute = none ∧
    Started 0x31 (begun 0x31 #v[13, 0, 0, 0, 0, 0, 0, 0]) ∧ 12 < argNat (begun 0x31 #v[13, 0, 0, 0, 0, 0, 0, 0]) 0 ∧
    argNat (begun 0x31 #v[12, 0, 0, 0, 0, 0, 0, 0]) 0 = (12 : Fin 13).val := by
  unfold Started Runs; decide

theorem witness_IdentifyStartIsTakenOrRefused :
    PortOpen (identifying 3 none) ∧ (identifying 3 none).id.state = .run ∧ PortOpen State.reset ∧
    State.reset.id.state ≠ .run ∧ 15 < (16#8).toNat ∧ (15#8).toNat = (15 : Level).val := by
  unfold PortOpen Runs; decide

theorem witness_SelectionStepPostsOrStartsACycle :
    let internal := { identifying 4 none with lv := { latches := 0x0040, routes := Vector.replicate 13 4#4 } }
    let soft := { identifying 4 none with lv := { soft := 0x0010 } }
    let chain := { identifying 4 none with
      cfg := { chain := 1 }, lv := { routes := Vector.replicate 13 4#4, atnA := true }, env := { pins := { chdLow := true } } }
    SelectionWaits internal 4 ∧ Selected internal 4 6 ∧ SelectionWaits soft 4 ∧ (∀ n, n ≤ 14 → ¬ Behind soft 4 n) ∧
    soft.lv.soft.getLsbD 4 = true ∧ (∀ n, n ≤ 14 → ¬ Behind (identifying 15 none) 15 n) ∧
    (identifying 15 none).lv.soft.getLsbD 15 = false ∧ SelectionWaits chain 4 ∧
    Selected chain 4 (chainCodes .a).1.toNat ∧ (seenPins chain).chdLow = true := by
  refine ⟨⟨runs_reset, rfl, rfl, rfl⟩, ?_, ⟨runs_reset, rfl, rfl, rfl⟩, ?_, ?_, ?_, ?_, ⟨runs_reset, rfl, rfl, rfl⟩, ?_, ?_⟩
  · unfold Selected Behind; decide
  · unfold Behind; decide
  · decide
  · unfold Behind; decide
  · decide
  · unfold Selected Behind; decide
  · decide

theorem witness_ChainCycleRunsToItsResult :
    let c (p : ChainPhase) : ChainCycle := { cls := .b, phase := p }
    CycleIn (identifying 9 (some (c .presence))) (c .presence) .presence ∧
    CycleIn (identifying 9 (some (c .release))) (c .release) .release ∧
    CycleIn (identifying 9 (some (c .shift))) (c .shift) .shift ∧
    CycleIn (identifying 9 (some (c (.settling (.shifted 1))))) (c (.settling (.shifted 1))) (.settling (.shifted 1)) ∧
    (identifying 9 (some (c .presence))).id.level = some 9 := by
  unfold CycleIn Runs; decide

theorem witness_OneStepsFaultsAreCapturedTogether :
    let r : FaultRecord := { cause := some .sequence, lost := 15, locked := true }
    let f : FaultReport := ⟨.tableParity, .translator, 1, 0⟩
    r.locked = true ∧ r.lost ≤ 15 ∧ ({} : FaultRecord).locked = false ∧
    (∀ g ∈ [FaultReport.mk .sequence .levels 0 0], causeCode (some f.cause) < causeCode (some g.cause)) ∧
    ∀ g ∈ [f], causeCode (some f.cause) ≤ causeCode (some g.cause) := by decide

theorem witness_FldbReadUnlocksTheRecord :
    let s := { State.reset with fault := { cause := some .sequence, locked := true } }
    PortOpen s ∧ LevelsLegal s ∧ sourceActive s 14 = true := by unfold PortOpen Runs LevelsLegal; decide

theorem witness_ClockCommandsWriteAndReadTheClock :
    Started 0x40 (begun 0x40 #v[23, 59, 59, 0, 0, 0, 0, 0]) ∧
    badIndex (begun 0x40 #v[23, 59, 59, 0, 0, 0, 0, 0]) (.setTime none) = none ∧
    Started 0x41 (begun 0x41 #v[24, 2, 29, 6, 0, 0, 0, 0]) ∧
    badIndex (begun 0x41 #v[24, 2, 29, 6, 0, 0, 0, 0]) (.setDate none) = none ∧
    Started 0x43 (begun 0x43 #v[255, 59, 0, 1, 0, 0, 0, 0]) ∧
    badIndex (begun 0x43 #v[255, 59, 0, 1, 0, 0, 0, 0]) (.setAlarm none) = none ∧
    (begun 0x43 #v[255, 59, 0, 1, 0, 0, 0, 0]).tk.alarm.armed = false ∧
    ({ begun 0x43 Row.zero with tk := { alarm := { armed := true } } } : State).tk.alarm.armed = true ∧
    Started 0x44 (begun 0x44 Row.zero) ∧ Started 0x46 (begun 0x46 #v[0xC0, 0, 0, 0, 0, 0, 0, 0]) ∧
    badIndex (begun 0x46 #v[0xC0, 0, 0, 0, 0, 0, 0, 0]) (.setAdjust none) = none ∧ Started 0x42 (begun 0x42 Row.zero) := by
  unfold Started Runs; decide

theorem witness_ReadAlarmReturnsTheSettings : Started 0x45 (begun 0x45 Row.zero) := by unfold Started Runs; decide

theorem witness_ticks :
    let s := { State.reset with tk := { sub := 63, adjSecond := 63, adjust := 0xC1, wake := false } }
    let off := { s with sup := { power := .batteryOnly, phase := .held } }
    TickReady s ∧ CalendarInRange s ∧ adjustGood s.tk.adjust = true ∧ Runs s ∧ NotHalted s ∧ s.cfg.tickRate.toNat ≤ 4 ∧
    ¬ Runs off ∧ TickReady off ∧ CalendarInRange off := by
  unfold TickReady CalendarInRange Runs NotHalted; decide

theorem witness_HaltDetectionReportsAndResumes :
    let ready := withSup { detector := .watching 0, haltReady := true }
    let asked := withSup { request := some .watchdog }
    (Runs ready ∧ ready.sup.haltReady = true) ∧
    (asked.sup.power = .mainOn ∧ asked.sup.phase ≠ .held ∧ asked.sup.cutShort = false ∧ asked.sup.request ≠ none) ∧
    (withSup { detector := .halted }).sup.haltReady = false ∧
    Runs State.reset ∧ NotHalted State.reset ∧ (heldWith .pin).sup.power = .mainOn ∧ (heldWith .pin).sup.phase = .held ∧
    NotHalted (heldWith .pin) ∧ (heldWith .pin).sup.cutShort = false ∧ (heldWith .pin).sup.request = none := by
  unfold Runs NotHalted; decide

theorem witness_BackupCommandsReadAndWriteTheMemory :
    Started 0x50 (begun 0x50 #v[56, 8, 0, 0, 0, 0, 0, 0]) ∧
    badIndex (begun 0x50 #v[56, 8, 0, 0, 0, 0, 0, 0]) .backupRead = none ∧ Started 0x52 (begun 0x52 Row.zero) ∧
    Started 0x51 (begun 0x51 #v[33, 1, 9, 0, 0, 0, 0, 0]) ∧
    badIndex (begun 0x51 #v[33, 1, 9, 0, 0, 0, 0, 0]) (.backupWrite none) = none ∧ Started 0x53 (begun 0x53 Row.zero) ∧
    TablesCanonical (begun 0x53 Row.zero) := by
  refine ⟨?_, ?_, ?_, ?_, ?_, ?_, tables_of_reset rfl rfl rfl rfl⟩ <;> (try unfold Started Runs) <;> decide

theorem configInRange_reset : ConfigInRange State.reset := by
  intro id h1 h2
  exact (by decide : ∀ i : Fin 13, 1 ≤ i.val → fieldInRange i.val (fieldGet State.reset.cfg i.val) = true)
    ⟨id, by omega⟩ h1

theorem witness_SaveAndLoadConfigMoveTheImage :
    TablesCanonical (begun 0x62 Row.zero) ∧ Started 0x62 (begun 0x62 Row.zero) ∧ Started 0x63 (begun 0x63 Row.zero) := by
  refine ⟨tables_of_reset rfl rfl rfl rfl, ?_⟩
  unfold Started Runs; decide

theorem witness_LoadAfterSaveRestoresTheConfiguration :
    let t := after (exec (.saveConfig none) (begun 0x62 Row.zero))
    let u := { begun 0x63 Row.zero with mem := t.mem, cfg := { chain := 1 } }
    TablesCanonical (begun 0x62 Row.zero) ∧ ConfigInRange (begun 0x62 Row.zero) ∧ Started 0x62 (begun 0x62 Row.zero) ∧
    exec (.saveConfig none) (begun 0x62 Row.zero) = .next t ∧ u.mem = t.mem ∧ Started 0x63 u := by
  refine ⟨tables_of_reset rfl rfl rfl rfl, configInRange_reset, ?_, rfl, rfl, ?_⟩ <;>
    exact ⟨runs_reset, rfl, rfl⟩

theorem witness_CutStepsLeaveAPrefix :
    Started 0x51 (begun 0x51 #v[28, 6, 1, 2, 3, 4, 5, 6]) ∧
    badIndex (begun 0x51 #v[28, 6, 1, 2, 3, 4, 5, 6]) (.backupWrite none) = none ∧ Started 0x53 (begun 0x53 Row.zero) ∧
    Started 0x62 (begun 0x62 Row.zero) ∧ Started 0x40 (begun 0x40 Row.zero) ∧
    SequenceWaits .cold (heldWith .cold) ∧ (heldWith .cold).sup.oscHalt = none ∧
    SequenceWaits .pin (withSup { phase := .held, reason := some .pin, oscHalt := some (0, 0) }) ∧ (withSup { request := some .chord }).sup.request = some .chord ∧
    (withSup { request := some .chord }).sup.phase ≠ .held := by
  unfold Started SequenceWaits Runs; decide

theorem witness_watchdog :
    let s := { State.reset with wd := { state := .armed, count := 31, active := 0, pending := 2 } }
    let w := { State.reset with wd := { state := .warned, count := 255, active := 3, pending := 2 } }
    Started 0x70 (begun 0x70 #v[3, 1, 0, 0, 0, 0, 0, 0]) ∧
    badIndex (begun 0x70 #v[3, 1, 0, 0, 0, 0, 0, 0]) .watchdogSet = none ∧ PortOpen s ∧ Runs s ∧ NotHalted s ∧
    32 * 2 ^ s.wd.active.toNat ≤ s.wd.count + 1 ∧ s.wd.state = .armed ∧
    32 * 2 ^ w.wd.active.toNat ≤ w.wd.count + 1 ∧ w.wd.state = .warned := by
  unfold Started PortOpen Runs NotHalted; decide

theorem witness_FullResetBeginsWithPartOne :
    let soft := withSup { request := some .soft }
    let back := withSup { power := .brownOut, phase := .held, reason := none }
    let again := withSup { power := .brownOut, phase := .held, reason := some .brownOut, coldMarker := true }
    let met := { withSup { request := some .chord } with pending := [.hostSideReset none] }
    Started 0x02 (begun 0x02 Row.zero) ∧ soft.sup.power = .mainOn ∧ soft.sup.phase ≠ .held ∧
    soft.sup.request = some .soft ∧ soft.sup.cutShort = false ∧ RequestLegal soft ∧ RequestLegal State.reset ∧
    (heldWith .soft).sup.reason = some .soft ∧ (heldWith .soft).sup.request = none ∧ back.sup.power = .brownOut ∧
    back.sup.phase = .held ∧ back.sup.request = none ∧ back.sup.reason = none ∧ again.sup.power = .brownOut ∧
    again.sup.phase = .held ∧ again.sup.request = none ∧ again.sup.reason = some .brownOut ∧
    met.pending = [.hostSideReset none] ∧ met.sup.power = .mainOn ∧ met.sup.phase ≠ .held ∧ met.sup.cutShort = false ∧
    met.sup.request = some .chord := by
  unfold Started Runs RequestLegal; decide

theorem witness_PowerStatesChangeAsTheTableSays :
    State.reset.sup.power = .mainOn ∧ (withSup { power := .brownOut, phase := .held }).sup.power = .brownOut ∧
    (withSup { power := .batteryOnly, phase := .held }).sup.power = .batteryOnly ∧
    (withSup { power := .dead, phase := .held }).sup.power = .dead := by decide

/-- R179: the chain outputs are at rest through BROWN-OUT and not driven without VDD; lamps and nHRST likewise. -/
theorem test_outputs_by_power_state :
    let s := { identifying 9 (some { cls := .b }) with
      id := { state := .run, level := some 9, cycle := some { cls := .b }, idg := true, chs := true }, tr := { locks := { caps := true } } }
    let low := after (exec .brownOutEntry s)
    let off := after (exec .vddLoss low)
    chainOutputs s = some { idg := true, chs := true, chc := true } ∧ lampOutputs s = 1 ∧ hostResetAsserted s = false ∧
    chainOutputs low = some chainAtRest ∧ lampOutputs low = 0 ∧ hostResetAsserted low = true ∧
    chainOutputs off = none ∧ lampOutputs off = 0 ∧ hostResetAsserted off = false := by decide

/-- R174, R176: a brown-out in which VDD was lost gives POWER-ON, one in which it stayed present BROWN-OUT. -/
theorem test_reason_of_the_return :
    let low := after (exec .brownOutEntry State.reset)
    let lost := after (exec .vddBelowBrownOutLevel (after (exec .vddLoss low)))
    (after (exec .returnToMainOn low)).sup.reason = some .brownOut ∧
    (after (exec .returnToMainOn lost)).sup.reason = some .powerOn := by decide

set_option maxRecDepth 20000 in
theorem witness_FullResetSequenceRestoresAndRecords :
    TablesCanonical (heldWith .pin) ∧ SequenceWaits .pin (heldWith .pin) ∧ ¬ Invalid .pin (heldWith .pin) ∧
    SequenceWaits .cold (heldWith .cold) ∧ Invalid .cold (heldWith .cold) ∧ (heldWith .pin).fault.locked = false ∧
    (withSup { phase := .held, reason := some .pin }).sup.oscSeen = false ∧
    (withSup { phase := .held, reason := some .pin }).sup.oscHalt = none ∧
    (seenPins { heldWith .pin with env := { pins := { nresetLow := true } } }).nresetLow = true := by
  refine ⟨tables_of_reset rfl rfl rfl rfl, ?_⟩
  unfold SequenceWaits Invalid; decide

theorem witness_HostSideResetPreservesTablesAndFault :
    let s := withSup { request := some .watchdog, phase := .stretch }
    TablesCanonical s ∧ s.sup.power = .mainOn ∧ s.sup.phase ≠ .held ∧ s.sup.cutShort = false ∧
    s.sup.request = some .watchdog := by
  refine ⟨tables_of_reset rfl rfl rfl rfl, ?_⟩
  decide

theorem witness_HostResetReleaseOpensThePort :
    let at1 := withSup { phase := .stretch, reason := some .watchdog, stretchTicks := 1, stretchClks := 262143 }
    let at2 := { withSup { phase := .stretch, reason := some .watchdog, stretchTicks := 2 } with
      fault := { cause := some .sequence, locked := true } }
    let pin := withSup { phase := .stretch, reason := some .pin }
    (PortClosed at1 ∧ ¬ StretchOver at1) ∧ (PortClosed at2 ∧ StretchOver at2) ∧ PortClosed pin ∧ StretchOver pin := by
  unfold PortClosed StretchOver Runs; decide

/-- R180: the release waits for the second tick of the stretch. -/
theorem test_release_after_the_second_tick :
    let s := after (exec .timebaseTick stretched)
    (after (exec .nhrstRelease s)).sup.phase = .stretch ∧
    (after (exec .nhrstRelease (after (exec .timebaseTick s)))).sup.phase = .run := by decide

theorem witness_every_step :
    let s := { begun 0x01 Row.zero with pending := [.echo], tk := { wake := true }, lv := { latches := 0x0040, stack := [9, 2] } }
    BlocksLegal s ∧ TablesCanonical s ∧ RolloverBounded s ∧ WakeLatched s ∧ InterruptFollows s ∧
    step s = .next (after (step s)) := by
  refine ⟨⟨?_, ?_, ?_, ?_, ?_, ?_, ?_, configInRange_reset, ?_, ?_, ?_⟩, tables_of_reset rfl rfl rfl rfl, ?_, ?_, ?_, rfl⟩
  · unfold StackOrdered; decide
  · unfold LevelsLegal; decide
  · unfold QueueBounded; decide
  · unfold MailboxLegal; decide
  · unfold LostBounded; decide
  · unfold CycleLegal; decide
  · unfold CalendarInRange; decide
  · unfold AdjustInRange; decide
  · unfold RequestLegal; decide
  · refine ⟨fun n h => ?_, fun h => by simp [begun, State.reset] at h⟩
    have h : Detector.watching 0 = .watching n := h
    cases h; omega
  · unfold RolloverBounded; decide
  · unfold WakeLatched Runs; decide
  · unfold InterruptFollows; decide

theorem witness_CountersBringTheNextStep :
    let c (p : ChainPhase) : ChainCycle := { cls := .a, phase := p, time := 79 }
    let s := identifying 9 (some (c .shift))
    CycleIn s (c .shift) .shift ∧ SampleAt (c .shift).time ∧ PulseLow (c .shift).time ∧ ¬ PulseLow 63 ∧ ¬ SampleAt 80 ∧
    CycleIn (identifying 9 (some (c .presence))) (c .presence) .presence ∧
    CycleIn (identifying 9 (some (c .release))) (c .release) .release ∧
    CycleIn (identifying 9 (some (c (.settling .stuck)))) (c (.settling .stuck)) (.settling .stuck) ∧
    (Runs (withSup { detector := .halted, haltReady := true }) ∧ ¬ PortClosed (withSup { haltReady := true }) ∧
      Instr.haltDetection ∈ readySteps (withSup { haltReady := true }) ∧ RequestLegal (withSup { haltReady := true })) ∧
    HaltsNow { withSup { detector := .watching 8191 } with env := { pins := { oscCycle := false } } } ∧
    (seenPins State.reset).oscCycle = true ∧ State.reset.scan.run = true ∧
    (withSup { power := .batteryOnly }).sup.power ≠ .mainOn ∧
    Started 0x70 (begun 0x70 Row.zero) ∧ CommandCode 0x70 .watchdogSet ∧ Started 0x71 (begun 0x71 Row.zero) ∧
    commandOf 0x71 = none ∧ SelectionWaits (identifying 9 none) 9 ∧ (withSup { request := some .soft }).sup.phase ≠ .held ∧
    SequenceWaits .pin (heldWith .pin) ∧ (heldWith .pin).sup.request = none ∧
    Instr.fullResetSequence none ∈ readySteps (heldWith .pin) := by
  refine ⟨?_, ⟨0, by omega, rfl⟩, ⟨0, by omega, by decide, by decide⟩, ?_, ?_, ?_, ?_, ?_, ?_,
    ⟨rfl, rfl, 8191, rfl, by omega⟩, ?_⟩
  · unfold CycleIn Runs; decide
  · rintro ⟨k, _, h1, _⟩; omega
  · rintro ⟨k, _, h⟩; omega
  · unfold CycleIn Runs; decide
  · unfold CycleIn Runs; decide
  · unfold CycleIn Runs; decide
  · unfold PortClosed RequestLegal Runs; decide
  · unfold Started CommandCode SelectionWaits SequenceWaits Runs; decide

theorem witness_ProtectedStateYieldsOnlyToItsCommands :
    let s := { State.reset with
      fault := { cause := some .sequence, locked := true }, wd := { state := .armed } }
    exec .nreset s = .next (after (exec .nreset s)) ∧ s.fault.locked = true ∧
    (after (exec .nreset s)).fault.locked = false ∧ s.wd.state ≠ .disabled ∧
    (after (exec .nreset s)).wd.state = .disabled ∧ hostResetAsserted s = false ∧
    hostResetAsserted (after (exec .nreset s)) = true := by
  refine ⟨rfl, ?_⟩
  decide

end Sys2Proof.Machine.Tests
end

section
/-!
PROOF. The mailbox commands of Chapter 1: ECHO and the snapshot that the MBCMD write takes (R10, R14, R17). The snapshot
holds because a write with no row of its own reaches the argument bytes at most, never the working copy.
-/

namespace Sys2Proof.Machine

/-! ### The meanings of the three rows -/

theorem exec_echo (s : State) :
    exec .echo s = .next (commandStep 0x01 (fun s => complete .ok s.mb.work s) s) := rfl

theorem exec_mbcmdWrite (d : Byte) (s : State) : exec (.mbcmdWrite d) s = .next (hostWrite (startCommand d) s) := rfl

theorem exec_registerWrite (a : Addr) (d : Byte) (s : State) :
    exec (.registerWrite a d) s = .next (hostWrite (writeAction a d) s) := rfl

/-! ### What a step's start leaves alone -/

/-- The start of a step changes no part of the state. -/
theorem samplePins_same (p : Part) (s : State) : p.same s (samplePins s) := by
  cases p <;> simp [Part.same]

/-! ### Writes -/

/-- The start of a command outside BUSY: the argument bytes are copied into the working copy (R10). -/
theorem startCommand_of_not_busy {d : Byte} {s : State} (h : s.mb.state ≠ .busy) :
    startCommand d s = { s with mb := { s.mb with state := .busy, work := s.mb.args, running := some d } } := by
  simp [startCommand, h]

/-- A write with no row of its own stores an argument byte or does nothing (R1, R14, R38). -/
theorem writeAction_of_no_row {a : Addr} {d : Byte} (h : writeHasRow a d = false) :
    writeAction a d = id ∨ ∃ i, writeAction a d = writeArg i d := by
  have ha : a = BitVec.ofNat 6 a.toNat := by simp
  unfold writeAction
  split
  -- ARG0 to ARG7, then SCANC, then the addresses that no write reaches; every other address has a row
  case h_3 | h_4 | h_5 | h_6 | h_7 | h_8 | h_9 | h_10 => exact .inr ⟨_, rfl⟩
  case h_12 scanc =>
    rw [ha, scanc] at h
    simp only [writeHasRow, Bool.or_eq_false_iff, Bool.and_eq_false_imp, beq_iff_eq, beq_eq_false_iff_ne] at h
    left
    simp [writeScanc, h.2 trivial]
  case h_27 => exact .inl rfl
  all_goals
    next row =>
      rw [ha, row] at h
      simp [writeHasRow] at h

/-- A write with no row of its own changes the argument bytes at most. -/
theorem writeAction_frame_of_no_row {a : Addr} {d : Byte} (h : writeHasRow a d = false) (s : State) :
    ∃ args, writeAction a d s = { s with mb := { s.mb with args := args } } := by
  obtain hid | ⟨i, harg⟩ := writeAction_of_no_row h
  · exact ⟨s.mb.args, by rw [hid, id]⟩
  · exact ⟨s.mb.args.setIfInBounds i d, by rw [harg, writeArg]⟩

/-! ### From the MBCMD write to the command's step -/

/-- An MBCMD write outside BUSY starts the command with the argument bytes as its working copy, and the port stays open
(R10). -/
theorem mbcmdWrite_starts {d : Byte} {s t : State} (ho : PortOpen s) (hm : s.mb.state ≠ .busy)
    (ht : exec (.mbcmdWrite d) s = .next t) : PortOpen t ∧ Started d t ∧ t.mb.work = s.mb.args := by
  rw [exec_mbcmdWrite, hostWrite_open ho, startCommand_of_not_busy (by simpa using hm),
    Host.Outcome.next.injEq] at ht
  have hopen : PortOpen t := by simpa [← ht, PortOpen, Runs] using ho
  exact ⟨hopen, ⟨hopen.1, by simp [← ht], by simp [← ht]⟩, by simp [← ht]⟩

/-- A write with no row of its own keeps a started command started and its working copy as it is (R14). -/
theorem registerWrite_keeps_started {code : Byte} {a : Addr} {d : Byte} {s t : State} (ho : PortOpen s)
    (hs : Started code s) (hwf : (Instr.registerWrite a d).wellFormed = true)
    (ht : exec (.registerWrite a d) s = .next t) : Started code t ∧ t.mb.work = s.mb.work := by
  have hrow : writeHasRow a d = false := by simpa [Instr.wellFormed] using hwf
  obtain ⟨args, hact⟩ := writeAction_frame_of_no_row hrow (samplePins s)
  rw [exec_registerWrite, hostWrite_open ho, hact, Host.Outcome.next.injEq] at ht
  exact ⟨by simpa [← ht, Started, Runs] using hs, by simp [← ht]⟩

/-- A started ECHO completes with its working copy as the result bytes and changes nothing else (R17). -/
theorem echo_completes {s : State} (h : Started 0x01 s) :
    ∃ t, exec .echo s = .next t ∧ Completes .ok s.mb.work [] s t := by
  rw [exec_echo]
  refine started_next h ?_
  rw [samplePins_mb]
  exact completes_of_body h (samplePins_same .power s) rfl (by simp) (by simp) (by simp) (by simp)
    (fun p _ => samplePins_same p s)

/-- Settles O12: the MBCMD write takes the snapshot, the write after it leaves the snapshot alone, and ECHO returns it. -/
theorem echoReturnsTheSnapshot : Obligations.EchoReturnsTheSnapshot := by
  refine ⟨fun s => echo_completes, fun a d s t u ho hm hwf ht hu => ?_⟩
  obtain ⟨hopen, hstarted, hsnapshot⟩ := mbcmdWrite_starts ho hm ht
  obtain ⟨hkept, hwork⟩ := registerWrite_keeps_started hopen hstarted hwf hu
  obtain ⟨v, hv, hmb, -⟩ := echo_completes hkept
  exact ⟨v, hv, by rw [hmb]; exact hwork.trans hsnapshot, by rw [hmb]⟩

end Sys2Proof.Machine
end

section
/-!
PROOF. The commands of Chapter 3 on the state of translation: SET-LOCKS writes the toggles that its mask names (R68), and
READ-KEYSTATE reports the state and changes nothing (R69). The lamps follow the toggles in AUTO (R46).
-/

namespace Sys2Proof.Machine

/-! ### The meanings of the two rows -/

theorem exec_setLocks (s : State) : exec .setLocks s = .next (commandStep 0x17 setLocksBody s) := rfl

theorem exec_readKeystate (s : State) :
    exec .readKeystate s = .next (commandStep 0x18 (fun s => complete .ok (keystateRow s) s) s) := rfl

/-! ### SET-LOCKS (R68) -/

/-- The two argument checks of SET-LOCKS, as its body writes them (`setLocksBody_eq`). -/
def setLocksChecks (s : State) : List (Bool × Nat) :=
  [(decide (s.mb.work[0].toNat ≤ 15), 0), (decide (s.mb.work[1].toNat ≤ 15), 1)]

/-- The toggles that a valid SET-LOCKS leaves, as its body writes them (`setLocksBody_eq`). -/
def maskedLocks (s : State) : Locks where
  caps := maskedLock 0 s s.tr.locks.caps
  num := maskedLock 1 s s.tr.locks.num
  scroll := maskedLock 2 s s.tr.locks.scroll
  insert := maskedLock 3 s s.tr.locks.insert

theorem setLocksBody_eq (s : State) : setLocksBody s =
    withChecks (setLocksChecks s) (fun u => completeOk { u with tr := { u.tr with locks := maskedLocks u } }) s := rfl

/-- The checks find what R12 has SET-LOCKS report. -/
theorem firstFailing_setLocksChecks (s : State) : firstFailing (setLocksChecks s) = badIndex s .setLocks := by
  simp only [setLocksChecks, firstFailing_cons, firstFailing_nil, badIndex, argNat_eq s _ (by decide : 0 < 8),
    argNat_eq s _ (by decide : 1 < 8), decide_eq_true_eq, ← not_lt, ite_not]

/-- The checks read the working copy, which the start of a step leaves alone. -/
@[simp] theorem setLocksChecks_samplePins (s : State) : setLocksChecks (samplePins s) = setLocksChecks s := by
  simp [setLocksChecks]

@[simp] theorem maskedLocks_samplePins (s : State) : maskedLocks (samplePins s) = maskedLocks s := by
  simp [maskedLocks, maskedLock]

/-- A toggle takes bit `n` of the values byte where bit `n` of the mask byte is set (R68). -/
theorem maskedLock_eq (n : Nat) (s : State) (old : Bool) : maskedLock n s old =
    if (s.mb.work.getD 0 0).getLsbD n then (s.mb.work.getD 1 0).getLsbD n else old := by
  rw [row_getD _ 0 (by decide), row_getD _ 1 (by decide), maskedLock]

/-- A started SET-LOCKS is rejected with the index that its checks report. -/
theorem setLocks_rejects {s : State} {i : Nat} (h : Started 0x17 s) (hbad : badIndex s .setLocks = some i) :
    ∃ t, exec .setLocks s = .next t ∧ Rejects 0x17 i s t := by
  rw [exec_setLocks]
  refine started_next h ?_
  rw [setLocksBody_eq, setLocksChecks_samplePins]
  exact rejects_withChecks h (by rw [firstFailing_setLocksChecks, hbad])

/-- Storing toggles at the start of a step changes no part but the lock state. -/
theorem locksWrite_same {p : Part} (hp : p ≠ .locks) (l : Locks) (s : State) :
    p.same s { samplePins s with tr := { (samplePins s).tr with locks := l } } := by
  cases p
  case locks => exact absurd rfl hp
  all_goals simp [Part.same]

/-- A started SET-LOCKS with good arguments completes with OK, leaves the masked toggles and changes nothing else. -/
theorem setLocks_completes {s : State} (h : Started 0x17 s) (hgood : badIndex s .setLocks = none) :
    ∃ t, exec .setLocks s = .next t ∧ Completes .ok Row.zero [.locks] s t ∧ t.tr.locks = maskedLocks s := by
  have hchecks : firstFailing (setLocksChecks s) = none := by rw [firstFailing_setLocksChecks, hgood]
  rw [exec_setLocks]
  refine started_next h ?_
  rw [setLocksBody_eq, setLocksChecks_samplePins, withChecks_ok hchecks, maskedLocks_samplePins]
  refine ⟨?_, by simp⟩
  exact completes_of_body h (locksWrite_same (by decide) _ s) rfl (by simp) (by simp) (by simp) (by simp)
    (fun p hp => locksWrite_same (by simpa using hp) _ s)

/-! ### The lamps in AUTO (R46) -/

/-- The three lamp bits are the three toggles. -/
theorem lampBits (caps num scroll : Bool) :
    let lamps : BitVec 3 := (bitAt 0 caps ||| bitAt 1 num ||| bitAt 2 scroll).setWidth 3
    lamps.getLsbD 0 = caps ∧ lamps.getLsbD 1 = num ∧ lamps.getLsbD 2 = scroll := by
  revert caps num scroll
  decide

/-- In LAMP-MODE AUTO, while the main domain is not held in reset, each lamp is its toggle (R46). -/
theorem lampOutputs_auto {t : State} (hpower : t.sup.power = .mainOn) (hphase : t.sup.phase ≠ .held)
    (hauto : t.cfg.lampMode = 0) :
    (lampOutputs t).getLsbD 0 = t.tr.locks.caps ∧ (lampOutputs t).getLsbD 1 = t.tr.locks.num ∧
      (lampOutputs t).getLsbD 2 = t.tr.locks.scroll := by
  have hlamps : lampOutputs t =
      (bitAt 0 t.tr.locks.caps ||| bitAt 1 t.tr.locks.num ||| bitAt 2 t.tr.locks.scroll).setWidth 3 := by
    simp [lampOutputs, hpower, hphase, hauto]
  rw [hlamps]
  exact lampBits _ _ _

/-- A command that completes without touching power or configuration leaves the lamps following the toggles in AUTO. -/
theorem lampOutputs_of_completes {code : Byte} {r : ResultCode} {out : Row} {parts : List Part} {s t : State}
    (h : Started code s) (hc : Completes r out parts s t) (hpower : Part.power ∉ parts) (hconfig : Part.config ∉ parts)
    (hauto : s.cfg.lampMode = 0) :
    (lampOutputs t).getLsbD 0 = t.tr.locks.caps ∧ (lampOutputs t).getLsbD 1 = t.tr.locks.num ∧
      (lampOutputs t).getLsbD 2 = t.tr.locks.scroll := by
  obtain ⟨⟨hon, hnotHeld, -, -⟩, -, -⟩ := h
  obtain ⟨-, -, -, hframe⟩ := hc
  obtain ⟨hpowerSame, hphaseSame, -, -⟩ : Part.power.same s t := hframe .power (by simpa using hpower)
  have hconfigSame : t.cfg = s.cfg := hframe .config (by simpa using hconfig)
  exact lampOutputs_auto (hpowerSame.trans hon) (by rwa [hphaseSame]) (by rwa [hconfigSame])

/-- Settles O17: the argument checks decide between rejection and completion, and the lamps follow from the frame. -/
theorem setLocksGivesTheMaskedToggles : Obligations.SetLocksGivesTheMaskedToggles := by
  intro s h
  refine ⟨fun hmask => setLocks_rejects h (by simp [badIndex, hmask]), fun hmask hvalues => ?_, fun hmask hvalues => ?_⟩
  · exact setLocks_rejects h (by simp [badIndex, Nat.not_lt.2 hmask, hvalues])
  · have hgood : badIndex s .setLocks = none := by simp [badIndex, Nat.not_lt.2 hmask, Nat.not_lt.2 hvalues]
    obtain ⟨t, hnext, hcompletes, hlocks⟩ := setLocks_completes h hgood
    refine ⟨t, hnext, hcompletes, ?_, lampOutputs_of_completes h hcompletes (by decide) (by decide)⟩
    simp only [hlocks, maskedLocks, maskedLock_eq, and_self]

/-! ### READ-KEYSTATE (R69) -/

/-- Each toggle stands for its own power of two in RES0. -/
theorem locksByte_eq_sum (l : Locks) : locksByte l =
    (if l.caps then 1 else 0) + (if l.num then 2 else 0) + (if l.scroll then 4 else 0) + (if l.insert then 8 else 0) := by
  obtain ⟨caps, num, scroll, insert⟩ := l
  revert caps num scroll insert
  decide

/-- Six bits from bit 0 upward are the sum of their powers of two. -/
theorem sixBits_eq_sum (a b c d e f : Bool) :
    bitAt 0 a ||| bitAt 1 b ||| bitAt 2 c ||| bitAt 3 d ||| bitAt 4 e ||| bitAt 5 f =
      (if a then 1 else 0) + (if b then 2 else 0) + (if c then 4 else 0) + (if d then 8 else 0) +
      (if e then 16 else 0) + (if f then 32 else 0) := by
  revert a b c d e f
  decide

/-- The row reads the state of translation, the scanner and the repeat, which the start of a step leaves alone. -/
theorem keystateRow_samplePins (s : State) : keystateRow (samplePins s) = keystateRow s := by
  simp [keystateRow, heldByte, heldClass, trackedCount]

/-- A started READ-KEYSTATE completes with the key state as it stood and changes nothing else (R69). -/
theorem readKeystate_completes {s : State} (h : Started 0x18 s) :
    ∃ t, exec .readKeystate s = .next t ∧ Completes .ok (keystateRow s) [] s t := by
  rw [exec_readKeystate]
  refine started_next h ?_
  rw [keystateRow_samplePins]
  exact completes_of_body h (samplePins_same .power s) rfl (by simp) (by simp) (by simp) (by simp)
    (fun p _ => samplePins_same p s)

/-- Settles O18: the command returns `keystateRow` and changes nothing, and each byte of the row is R69's. -/
theorem readKeystateReturnsTheKeyState : Obligations.ReadKeystateReturnsTheKeyState := by
  intro s h
  obtain ⟨t, hnext, hcompletes⟩ := readKeystate_completes h
  have hres : t.mb.res = keystateRow s := by
    obtain ⟨hmb, -⟩ := hcompletes
    rw [hmb]
  refine ⟨t, hnext, by rwa [hres], ?_⟩
  rw [hres]
  refine ⟨⟨locksByte_eq_sum s.tr.locks, sixBits_eq_sum ..⟩, ?held, rfl, rfl, rfl, ?repeated, rfl⟩
  case held => cases hheld : s.tr.held <;> simp [keystateRow, bitAt, hheld]
  case repeated => cases hrep : s.rep <;> simp [keystateRow, repeatPosition, hrep]

end Sys2Proof.Machine
end

section
/-!
PROOF. READ-ALARM (R147): the command completes with `alarmRow` and changes nothing else. The row writes its flags as bits,
which come to the sum of their powers of two.
-/

namespace Sys2Proof.Machine

theorem exec_readAlarm (s : State) :
    exec .readAlarm s = .next (commandStep 0x45 (fun s => complete .ok (alarmRow s.tk) s) s) := rfl

/-- A flag that stands alone in its byte reads 1 or 0. -/
theorem bitAt_zero (a : Bool) : bitAt 0 a = if a then 1 else 0 := rfl

/-- Three bits from bit 0 upward are the sum of their powers of two. -/
theorem threeBits_eq_sum (a b c : Bool) :
    bitAt 0 a ||| bitAt 1 b ||| bitAt 2 c = (if a then 1 else 0) + (if b then 2 else 0) + (if c then 4 else 0) := by
  revert a b c
  decide

/-- A started READ-ALARM completes with the timekeeper's settings as they stood and changes nothing else (R147). -/
theorem readAlarm_completes {s : State} (h : Started 0x45 s) :
    ∃ t, exec .readAlarm s = .next t ∧ Completes .ok (alarmRow s.tk) [] s t := by
  rw [exec_readAlarm]
  refine started_next h ?_
  rw [samplePins_tk]
  exact completes_of_body h (samplePins_same .power s) rfl (by simp) (by simp) (by simp) (by simp)
    (fun p _ => samplePins_same p s)

/-- Settles O40: the command returns `alarmRow` and changes nothing, and each byte of the row is R147's. The time fields
need no rewriting: `alarmByte` is R147's case split on ANY. -/
theorem readAlarmReturnsTheSettings : Obligations.ReadAlarmReturnsTheSettings := by
  intro s h
  obtain ⟨t, hnext, hcompletes⟩ := readAlarm_completes h
  rw [alarmRow, threeBits_eq_sum, bitAt_zero, bitAt_zero] at hcompletes
  exact ⟨t, hnext, hcompletes⟩

end Sys2Proof.Machine
end

section
-- One lemma at a time: elaborated side by side they ask for more threads than the memory limit of the check leaves.
set_option Elab.async false
/-!
PROOF. Frames: what an operation of the model leaves alone, as a list of the parts it may change, and how frames compose to
the steps and completions of Safety.lean.
-/

namespace Sys2Proof.Machine

/-! ### Parts -/

theorem Part.same_refl (p : Part) (s : State) : p.same s s := by
  cases p <;> simp [Part.same]

theorem Part.same_trans {p : Part} {s t u : State} (hst : p.same s t) (htu : p.same t u) : p.same s u := by
  cases p <;> simp_all [Part.same]

/-! ### Frames -/

/-- From `s` to `t` no part changes but those listed; the inputs, the queue of commands and what the end of a step sets
(the power monitor's sample, nINT and the chain lines) stay too. -/
structure Frame (parts : List Part) (s t : State) : Prop where
  pending : t.pending = s.pending
  env : t.env = s.env
  pwrLow : t.sup.pwrLow = s.sup.pwrLow
  lines : t.lv.nint = s.lv.nint ∧ t.lv.atnA = s.lv.atnA ∧ t.lv.atnB = s.lv.atnB
  same : ∀ p, p ∉ parts → p.same s t

theorem Frame.refl (parts : List Part) (s : State) : Frame parts s s :=
  ⟨rfl, rfl, rfl, ⟨rfl, rfl, rfl⟩, fun p _ => p.same_refl s⟩

theorem Frame.mono {ps qs : List Part} {s t : State} (h : Frame ps s t) (hsub : ps ⊆ qs := by decide) : Frame qs s t :=
  ⟨h.pending, h.env, h.pwrLow, h.lines, fun p hp => h.same p (fun hmem => hp (hsub hmem))⟩

/-- Two operations one after the other, within one list of parts. -/
theorem Frame.trans {ps qs rs : List Part} {s t u : State} (hst : Frame ps s t) (htu : Frame qs t u)
    (hps : ps ⊆ rs := by decide) (hqs : qs ⊆ rs := by decide) : Frame rs s u where
  pending := htu.pending.trans hst.pending
  env := htu.env.trans hst.env
  pwrLow := htu.pwrLow.trans hst.pwrLow
  lines := ⟨htu.lines.1.trans hst.lines.1, htu.lines.2.1.trans hst.lines.2.1, htu.lines.2.2.trans hst.lines.2.2⟩
  same p hp := Part.same_trans ((hst.mono hps).same p hp) ((htu.mono hqs).same p hp)

theorem Frame.changesOnly {parts : List Part} {s t : State} (h : Frame parts s t) : ChangesOnly parts s t :=
  ⟨h.pending, h.same⟩

/-! ### Operations shared by the blocks -/

theorem setLatch_frame (l : Latch) (s : State) : Frame [.latches] s (setLatch l s) := by
  refine ⟨rfl, rfl, rfl, ⟨rfl, rfl, rfl⟩, fun p hp => ?_⟩
  cases p <;> simp_all [Part.same]

theorem clearLatches_frame (mask : Half) (s : State) : Frame [.latches] s (clearLatches mask s) := by
  refine ⟨rfl, rfl, rfl, ⟨rfl, rfl, rfl⟩, fun p hp => ?_⟩
  cases p <;> simp_all [Part.same]

theorem captureAll_frame (faults : List FaultReport) (s : State) : Frame [.fault] s (captureAll faults s) := by
  refine ⟨rfl, rfl, rfl, ⟨rfl, rfl, rfl⟩, fun p hp => ?_⟩
  cases p <;> simp_all [Part.same]

theorem capture_frame (f : FaultReport) (s : State) : Frame [.fault] s (capture f s) := by
  refine ⟨rfl, rfl, rfl, ⟨rfl, rfl, rfl⟩, fun p hp => ?_⟩
  cases p <;> simp_all [Part.same]

theorem complete_frame (r : ResultCode) (out : Row) (s : State) : Frame [.mailbox, .latches] s (complete r out s) := by
  refine ⟨rfl, rfl, rfl, ⟨rfl, rfl, rfl⟩, fun p hp => ?_⟩
  cases p <;> simp_all [Part.same]

theorem completeOk_frame (s : State) : Frame [.mailbox, .latches] s (completeOk s) := by
  refine ⟨rfl, rfl, rfl, ⟨rfl, rfl, rfl⟩, fun p hp => ?_⟩
  cases p <;> simp_all [Part.same]

theorem completeBadArgument_frame (i : Nat) (s : State) : Frame [.mailbox, .latches, .fault] s (completeBadArgument i s) := by
  refine ⟨rfl, rfl, rfl, ⟨rfl, rfl, rfl⟩, fun p hp => ?_⟩
  cases p <;> simp_all [Part.same]

theorem markCut_frame (s : State) : Frame [.cut] s (markCut s) := by
  refine ⟨rfl, rfl, rfl, ⟨rfl, rfl, rfl⟩, fun p hp => ?_⟩
  cases p <;> simp_all [Part.same]

theorem driveBus_frame (b : Byte) (s : State) : Frame [.dataBus] s (driveBus b s) := by
  refine ⟨rfl, rfl, rfl, ⟨rfl, rfl, rfl⟩, fun p hp => ?_⟩
  cases p <;> simp_all [Part.same]

theorem appendRecord_frame (r : QRecord) (s : State) : Frame [.records] s (appendRecord r s) := by
  refine ⟨rfl, rfl, rfl, ⟨rfl, rfl, rfl⟩, fun p hp => ?_⟩
  cases p <;> simp_all [Part.same]

theorem discardRecord_frame (s : State) : Frame [.lost, .latches] s (discardRecord s) := by
  refine ⟨rfl, rfl, rfl, ⟨rfl, rfl, rfl⟩, fun p hp => ?_⟩
  cases p <;> simp_all [Part.same]

theorem emptyQueue_frame (s : State) : Frame [.records] s (emptyQueue s) := by
  refine ⟨rfl, rfl, rfl, ⟨rfl, rfl, rfl⟩, fun p hp => ?_⟩
  cases p <;> simp_all [Part.same]

theorem cancelRepeat_frame (s : State) : Frame [.repetition] s (cancelRepeat s) := by
  refine ⟨rfl, rfl, rfl, ⟨rfl, rfl, rfl⟩, fun p hp => ?_⟩
  cases p <;> simp_all [Part.same]

theorem clearCompose_frame (s : State) : Frame [.compose] s (clearCompose s) := by
  refine ⟨rfl, rfl, rfl, ⟨rfl, rfl, rfl⟩, fun p hp => ?_⟩
  cases p <;> simp_all [Part.same]

theorem requestReset_frame (r : ResetReason) (s : State) : Frame [.request] s (requestReset r s) := by
  refine ⟨rfl, rfl, rfl, ⟨rfl, rfl, rfl⟩, fun p hp => ?_⟩
  cases p <;> simp_all [Part.same]

/-! ### Event levels (Chapter 5) -/

theorem setEnables_frame (mask : Half) (s : State) : Frame [.enables] s (setEnables mask s) := by
  refine ⟨rfl, rfl, rfl, ⟨rfl, rfl, rfl⟩, fun p hp => ?_⟩
  cases p <;> simp_all [Part.same, setEnables]

theorem clearEnables_frame (mask : Half) (s : State) : Frame [.enables] s (clearEnables mask s) := by
  refine ⟨rfl, rfl, rfl, ⟨rfl, rfl, rfl⟩, fun p hp => ?_⟩
  cases p <;> simp_all [Part.same, clearEnables]

theorem setSoft_frame (mask : Half) (s : State) : Frame [.soft] s (setSoft mask s) := by
  refine ⟨rfl, rfl, rfl, ⟨rfl, rfl, rfl⟩, fun p hp => ?_⟩
  cases p <;> simp_all [Part.same, setSoft]

theorem clearSoft_frame (mask : Half) (s : State) : Frame [.soft] s (clearSoft mask s) := by
  refine ⟨rfl, rfl, rfl, ⟨rfl, rfl, rfl⟩, fun p hp => ?_⟩
  cases p <;> simp_all [Part.same, clearSoft]

theorem clearWake_frame (s : State) : Frame [.wake] s (clearWake s) := by
  refine ⟨rfl, rfl, rfl, ⟨rfl, rfl, rfl⟩, fun p hp => ?_⟩
  cases p <;> simp_all [Part.same, clearWake]

/-! ### Identify engine (Chapter 6) -/

theorem postResult_frame (source code : Byte) (s : State) : Frame [.identify] s (postResult source code s) := by
  refine ⟨rfl, rfl, rfl, ⟨rfl, rfl, rfl⟩, fun p hp => ?_⟩
  cases p <;> simp_all [Part.same, postResult]

/-! ### Token queue (Chapter 4) -/

theorem clearLost_frame (s : State) : Frame [.lost] s (clearLost s) := by
  refine ⟨rfl, rfl, rfl, ⟨rfl, rfl, rfl⟩, fun p hp => ?_⟩
  cases p <;> simp_all [Part.same, clearLost]

theorem takeSnapshot_frame (s : State) : Frame [.headLatch] s (takeSnapshot s) := by
  refine ⟨rfl, rfl, rfl, ⟨rfl, rfl, rfl⟩, fun p hp => ?_⟩
  cases p <;> simp_all [Part.same, takeSnapshot]

theorem removeHead_frame (s : State) : Frame [.records] s (removeHead s) := by
  refine ⟨rfl, rfl, rfl, ⟨rfl, rfl, rfl⟩, fun p hp => ?_⟩
  cases p <;> simp_all [Part.same, removeHead]

theorem armRepeat_frame (p : Position) (r : QRecord) (s : State) : Frame [.repetition] s (armRepeat p r s) := by
  refine ⟨rfl, rfl, rfl, ⟨rfl, rfl, rfl⟩, fun p hp => ?_⟩
  cases p <;> simp_all [Part.same, armRepeat]

/-! ### Key translation (Chapter 3) -/

theorem recordChord_frame (i : Fin 4) (s : State) : Frame [.lastChord, .latches] s (recordChord i s) := by
  refine ⟨rfl, rfl, rfl, ⟨rfl, rfl, rfl⟩, fun p hp => ?_⟩
  cases p <;> simp_all [Part.same, recordChord]

theorem leaveHeld_frame (s : State) : Frame [.held, .latches] s (leaveHeld s) := by
  refine ⟨rfl, rfl, rfl, ⟨rfl, rfl, rfl⟩, fun p hp => ?_⟩
  cases p <;> simp_all [Part.same, leaveHeld]

theorem addDigit_frame (d : Fin 10) (s : State) : Frame [.compose] s (addDigit d s) := by
  refine ⟨rfl, rfl, rfl, ⟨rfl, rfl, rfl⟩, fun p hp => ?_⟩
  cases p <;> simp_all [Part.same, addDigit]

theorem forgetKeys_frame (s : State) : Frame [.modKeys, .compose, .repetition] s (forgetKeys s) := by
  refine ⟨rfl, rfl, rfl, ⟨rfl, rfl, rfl⟩, fun p hp => ?_⟩
  cases p <;> simp_all [Part.same, forgetKeys]

theorem writeLamps_frame (d : Byte) (s : State) : Frame [.lamps] s (writeLamps d s) := by
  refine ⟨rfl, rfl, rfl, ⟨rfl, rfl, rfl⟩, fun p hp => ?_⟩
  cases p <;> simp_all [Part.same, writeLamps]

theorem restoreLayout_frame (s : State) : Frame [.classes, .entries] s (restoreLayout s) := by
  refine ⟨rfl, rfl, rfl, ⟨rfl, rfl, rfl⟩, fun p hp => ?_⟩
  cases p <;> simp_all [Part.same, restoreLayout]

/-! ### Scanner (Chapter 2) -/

theorem restartScanTimer_frame (s : State) : Frame [.scanTimer] s (restartScanTimer s) := by
  refine ⟨rfl, rfl, rfl, ⟨rfl, rfl, rfl⟩, fun p hp => ?_⟩
  cases p <;> simp_all [Part.same]

theorem dropReadyPass_frame (s : State) : Frame [.scanTimer] s (dropReadyPass s) := by
  refine ⟨rfl, rfl, rfl, ⟨rfl, rfl, rfl⟩, fun p hp => ?_⟩
  cases p <;> simp_all [Part.same]

/-! ### Host port (Chapter 1) -/

theorem fillWriteLatch_frame (d : Byte) (s : State) : Frame [.writeLatch] s (fillWriteLatch d s) := by
  refine ⟨rfl, rfl, rfl, ⟨rfl, rfl, rfl⟩, fun p hp => ?_⟩
  cases p <;> simp_all [Part.same, fillWriteLatch]

theorem fillReadLatch_frame (value : State → Half) (s : State) : Frame [.readLatch] s (fillReadLatch value s) := by
  refine ⟨rfl, rfl, rfl, ⟨rfl, rfl, rfl⟩, fun p hp => ?_⟩
  cases p <;> simp_all [Part.same, fillReadLatch]

theorem unlockFault_frame (s : State) : Frame [.fault] s (unlockFault s) := by
  refine ⟨rfl, rfl, rfl, ⟨rfl, rfl, rfl⟩, fun p hp => ?_⟩
  cases p <;> simp_all [Part.same, unlockFault]

theorem writeArg_frame (i : Nat) (d : Byte) (s : State) : Frame [.mailbox] s (writeArg i d s) := by
  refine ⟨rfl, rfl, rfl, ⟨rfl, rfl, rfl⟩, fun p hp => ?_⟩
  cases p <;> simp_all [Part.same, writeArg]

/-! ### Timekeeper (Chapter 8) -/

theorem writeTime_frame (s : State) : Frame [.calendar, .counters, .setFlags] s (writeTime s) := by
  refine ⟨rfl, rfl, rfl, ⟨rfl, rfl, rfl⟩, fun p hp => ?_⟩
  cases p <;> simp_all [Part.same, writeTime]

theorem writeDate_frame (s : State) : Frame [.calendar, .setFlags] s (writeDate s) := by
  refine ⟨rfl, rfl, rfl, ⟨rfl, rfl, rfl⟩, fun p hp => ?_⟩
  cases p <;> simp_all [Part.same, writeDate]

theorem writeAlarm_frame (s : State) : Frame [.alarm] s (writeAlarm s) := by
  refine ⟨rfl, rfl, rfl, ⟨rfl, rfl, rfl⟩, fun p hp => ?_⟩
  cases p <;> simp_all [Part.same, writeAlarm]

theorem disarmAlarm_frame (s : State) : Frame [.alarm] s (disarmAlarm s) := by
  refine ⟨rfl, rfl, rfl, ⟨rfl, rfl, rfl⟩, fun p hp => ?_⟩
  cases p <;> simp_all [Part.same, disarmAlarm]

theorem clearTimeFlags_frame (s : State) : Frame [.setFlags] s (clearTimeFlags s) := by
  refine ⟨rfl, rfl, rfl, ⟨rfl, rfl, rfl⟩, fun p hp => ?_⟩
  cases p <;> simp_all [Part.same, clearTimeFlags]

theorem sampleBattery_frame (s : State) : Frame [.batLow] s (sampleBattery s) := by
  refine ⟨rfl, rfl, rfl, ⟨rfl, rfl, rfl⟩, fun p hp => ?_⟩
  cases p <;> simp_all [Part.same, sampleBattery]

theorem loadConfig_frame (s : State) : Frame [.config] s (loadConfig s) := by
  refine ⟨rfl, rfl, rfl, ⟨rfl, rfl, rfl⟩, fun p hp => ?_⟩
  cases p <;> simp_all [Part.same, loadConfig]

end Sys2Proof.Machine
end

section
-- One lemma at a time: elaborated side by side they ask for more threads than the memory limit of the check leaves.
set_option Elab.async false
/-!
PROOF. The frames of the meanings: host accesses, mailbox command steps and the events inside the running main domain, each
put together from the frames of the operations that it calls.
-/

namespace Sys2Proof.Machine

/-! ### Branches -/

theorem Frame.ite {parts : List Part} {s t u : State} {c : Prop} [Decidable c] (ht : Frame parts s t)
    (hu : Frame parts s u) : Frame parts s (if c then t else u) := by
  split
  · exact ht
  · exact hu

/-- A further operation within the same list of parts. -/
theorem Frame.andThen {ps qs : List Part} {s t u : State} (hst : Frame ps s t) (htu : Frame qs t u)
    (hqs : qs ⊆ ps := by decide) : Frame ps s u :=
  hst.trans htu (List.Subset.refl _) hqs

/-- A further operation under a condition. -/
theorem Frame.thenIf {ps qs : List Part} {s t u : State} {c : Prop} [Decidable c] (hst : Frame ps s t)
    (htu : Frame qs t u) (hqs : qs ⊆ ps := by decide) : Frame ps s (if c then u else t) :=
  Frame.ite (hst.andThen htu hqs) hst

theorem offer_frame (r : QRecord) (s : State) : Frame [.records, .lost, .latches] s (offer r s) :=
  Frame.ite (appendRecord_frame r s).mono (discardRecord_frame s).mono

theorem takePass_frame (s : State) : Frame [.scanTimer] s (takePass s) := by
  refine Frame.ite ⟨rfl, rfl, rfl, ⟨rfl, rfl, rfl⟩, fun p hp => ?_⟩ (restartScanTimer_frame s)
  cases p <;> simp_all [Part.same]

theorem enterHalted_frame (s : State) : Frame [.scanTimer, .halt] s (enterHalted s) := by
  refine ⟨by simp, by simp, by simp only [enterHalted_sup]; split <;> rfl, by simp, fun p hp => ?_⟩
  by_cases hheld : s.sup.phase = .held <;> cases p <;> simp_all [Part.same]

/-! ### Mailbox command steps -/

/-- The parts that a command with argument checks may change when it rejects or completes (R12, R13). -/
theorem withChecks_frame {parts : List Part} {checks : List (Bool × Nat)} {act : State → State} {s : State}
    (hact : Frame parts s (act s)) (hsub : [Part.mailbox, .latches, .fault] ⊆ parts := by decide) :
    Frame parts s (withChecks checks act s) := by
  unfold withChecks
  split
  · exact (completeBadArgument_frame _ s).mono hsub
  · exact hact

theorem withChecksCut_frame {parts : List Part} {cut : Option Nat} {checks : List (Bool × Nat)} {act : State → State}
    {s : State} (hact : Frame parts s (act s)) (hsub : [Part.mailbox, .latches, .fault] ⊆ parts := by decide)
    (hcut : [Part.cut] ⊆ parts := by decide) : Frame parts s (withChecksCut cut checks act s) := by
  unfold withChecksCut
  split
  · exact Frame.ite ((markCut_frame s).mono hcut) ((completeBadArgument_frame _ s).mono hsub)
  · exact hact

theorem allOrNothing_frame {parts : List Part} {cut : Option Nat} {change finish : State → State} {s : State}
    (hchange : Frame parts s (change s)) (hfinish : ∀ u, Frame parts u (finish u))
    (hcut : [Part.cut] ⊆ parts := by decide) : Frame parts s (allOrNothing cut change finish s) := by
  unfold allOrNothing
  split
  · exact hchange.trans (hfinish _) (List.Subset.refl _) (List.Subset.refl _)
  · exact (markCut_frame s).mono hcut
  · exact hchange.trans (markCut_frame _) (List.Subset.refl _) hcut

theorem setMem_frame (m : Memory) (s : State) : Frame [.memory] s { s with mem := m } := by
  refine ⟨rfl, rfl, rfl, ⟨rfl, rfl, rfl⟩, fun p hp => ?_⟩
  cases p <;> simp_all [Part.same]

theorem setConfiguration_frame (c : OpConfig) (s : State) : Frame [.config] s { s with cfg := c } := by
  refine ⟨rfl, rfl, rfl, ⟨rfl, rfl, rfl⟩, fun p hp => ?_⟩
  cases p <;> simp_all [Part.same]

theorem setEntries_frame (t : Table Entry) (s : State) : Frame [.entries] s { s with tr := { s.tr with entries := t } } := by
  refine ⟨rfl, rfl, rfl, ⟨rfl, rfl, rfl⟩, fun p hp => ?_⟩
  cases p <;> simp_all [Part.same]

theorem setClasses_frame (t : Table KeyClass) (s : State) :
    Frame [.classes] s { s with tr := { s.tr with classes := t } } := by
  refine ⟨rfl, rfl, rfl, ⟨rfl, rfl, rfl⟩, fun p hp => ?_⟩
  cases p <;> simp_all [Part.same]

theorem setToggles_frame (l : Locks) (s : State) : Frame [.locks] s { s with tr := { s.tr with locks := l } } := by
  refine ⟨rfl, rfl, rfl, ⟨rfl, rfl, rfl⟩, fun p hp => ?_⟩
  cases p <;> simp_all [Part.same]

theorem setRoutes_frame (r : Vector (BitVec 4) 13) (s : State) :
    Frame [.routes] s { s with lv := { s.lv with routes := r } } := by
  refine ⟨rfl, rfl, rfl, ⟨rfl, rfl, rfl⟩, fun p hp => ?_⟩
  cases p <;> simp_all [Part.same]

theorem setWatchdog_frame (w : Watchdog) (s : State) : Frame [.watchdog] s { s with wd := w } := by
  refine ⟨rfl, rfl, rfl, ⟨rfl, rfl, rfl⟩, fun p hp => ?_⟩
  cases p <;> simp_all [Part.same]

theorem setAdjustValue_frame (b : Byte) (s : State) : Frame [.adjust] s { s with tk := { s.tk with adjust := b } } := by
  refine ⟨rfl, rfl, rfl, ⟨rfl, rfl, rfl⟩, fun p hp => ?_⟩
  cases p <;> simp_all [Part.same]

theorem setIdentify_frame (i : Identify) (s : State) : Frame [.identify] s { s with id := i } := by
  refine ⟨rfl, rfl, rfl, ⟨rfl, rfl, rfl⟩, fun p hp => ?_⟩
  cases p <;> simp_all [Part.same]

theorem setSwitch_frame (b : Bool) (s : State) : Frame [.switch] s { s with lv := { s.lv with switch := b } } := by
  refine ⟨rfl, rfl, rfl, ⟨rfl, rfl, rfl⟩, fun p hp => ?_⟩
  cases p <;> simp_all [Part.same]

theorem setStack_frame (l : List Level) (s : State) : Frame [.stack] s { s with lv := { s.lv with stack := l } } := by
  refine ⟨rfl, rfl, rfl, ⟨rfl, rfl, rfl⟩, fun p hp => ?_⟩
  cases p <;> simp_all [Part.same]

theorem setHeld_frame (b : Bool) (s : State) : Frame [.held] s { s with tr := { s.tr with held := b } } := by
  refine ⟨rfl, rfl, rfl, ⟨rfl, rfl, rfl⟩, fun p hp => ?_⟩
  cases p <;> simp_all [Part.same]

theorem setModKeys_frame (l : List (Position × ModClass)) (s : State) :
    Frame [.modKeys] s { s with tr := { s.tr with modKeys := l } } := by
  refine ⟨rfl, rfl, rfl, ⟨rfl, rfl, rfl⟩, fun p hp => ?_⟩
  cases p <;> simp_all [Part.same]

theorem setRepeat_frame (r : Repeat) (s : State) : Frame [.repetition] s { s with rep := r } := by
  refine ⟨rfl, rfl, rfl, ⟨rfl, rfl, rfl⟩, fun p hp => ?_⟩
  cases p <;> simp_all [Part.same]

theorem setMailbox_frame (m : Mailbox) (s : State) : Frame [.mailbox] s { s with mb := m } := by
  refine ⟨rfl, rfl, rfl, ⟨rfl, rfl, rfl⟩, fun p hp => ?_⟩
  cases p <;> simp_all [Part.same]

theorem completes_frame {parts : List Part} {s u : State} (r : ResultCode) (out : Row) (h : Frame parts s u)
    (hsub : [Part.mailbox, .latches] ⊆ parts := by decide) : Frame parts s (complete r out u) :=
  h.trans (complete_frame r out u) (List.Subset.refl _) hsub

theorem writeBackup_frame (cut : Option Nat) (bytes : List (Nat × Byte)) (s : State) :
    Frame [.mailbox, .latches, .memory, .cut] s (writeBackup cut bytes s) := by
  unfold writeBackup
  split
  · exact completes_frame .ok Row.zero (setMem_frame _ s).mono
  · exact (setMem_frame _ s).trans (markCut_frame _)

/-- The own work of each mailbox command step, with its code (section 1.6). -/
inductive CommandBody : Instr → Byte → (State → State) → Prop where
  | echo : CommandBody .echo 0x01 (fun s => complete .ok s.mb.work s)
  | resetDevice : CommandBody .resetDevice 0x02 (requestReset .soft)
  | loadEntry : CommandBody .loadEntry 0x10 loadEntryBody
  | readEntry : CommandBody .readEntry 0x11 readEntryBody
  | setClass : CommandBody .setClass 0x12 setClassBody
  | readClass : CommandBody .readClass 0x13 readClassBody
  | restoreLayout : CommandBody .restoreLayout 0x14 (fun s => completeOk (restoreLayout s))
  | setChord : CommandBody .setChord 0x15 setChordBody
  | readChord : CommandBody .readChord 0x16 readChordBody
  | setLocks : CommandBody .setLocks 0x17 setLocksBody
  | readKeystate : CommandBody .readKeystate 0x18 (fun s => complete .ok (keystateRow s) s)
  | endHold : CommandBody .endHold 0x19 endHoldBody
  | insert : CommandBody .insert 0x20 insertBody
  | flush : CommandBody .flush 0x21 flushBody
  | setRoute : CommandBody .setRoute 0x30 setRouteBody
  | readRoute : CommandBody .readRoute 0x31 readRouteBody
  | setTime (cut : Option Nat) : CommandBody (.setTime cut) 0x40 (setTimeBody cut)
  | setDate (cut : Option Nat) : CommandBody (.setDate cut) 0x41 (setDateBody cut)
  | readTime : CommandBody .readTime 0x42 readTimeBody
  | setAlarm (cut : Option Nat) : CommandBody (.setAlarm cut) 0x43 (setAlarmBody cut)
  | clearAlarm (cut : Option Nat) : CommandBody (.clearAlarm cut) 0x44 (allOrNothing cut disarmAlarm completeOk)
  | readAlarm : CommandBody .readAlarm 0x45 (fun s => complete .ok (alarmRow s.tk) s)
  | setAdjust (cut : Option Nat) : CommandBody (.setAdjust cut) 0x46 (setAdjustBody cut)
  | backupRead : CommandBody .backupRead 0x50 backupReadBody
  | backupWrite (cut : Option Nat) : CommandBody (.backupWrite cut) 0x51 (backupWriteBody cut)
  | readResetRecord : CommandBody .readResetRecord 0x52 (fun s => complete .ok
      #v[memByte s.mem 58, memByte s.mem 59, memByte s.mem 60, memByte s.mem 61, memByte s.mem 62, 0, 0, 0] s)
  | clearResetRecord (cut : Option Nat) :
      CommandBody (.clearResetRecord cut) 0x53 (writeBackup cut [(60, 0), (61, 0), (62, 0)])
  | setConfig : CommandBody .setConfig 0x60 setConfigBody
  | readConfig : CommandBody .readConfig 0x61 readConfigBody
  | saveConfig (cut : Option Nat) :
      CommandBody (.saveConfig cut) 0x62 (fun s => writeBackup cut (imageBytes s.cfg) s)
  | loadConfig : CommandBody .loadConfig 0x63 loadConfigBody
  | watchdogSet : CommandBody .watchdogSet 0x70 watchdogSetBody

/-- A command of the table runs its own work as a mailbox command step. -/
theorem exec_commandBody {c : Instr} {code : Byte} {body : State → State} (h : CommandBody c code body) (s : State) :
    exec c s = .next (commandStep code body s) := by
  cases h <;> rfl

/-- Every mailbox command but the unknown code has its own work. -/
theorem commandBody_of_kind {c : Instr} (h : kindOf c = .command) :
    c = .badCommand ∨ ∃ code body, CommandBody c code body := by
  cases c <;> first | exact .inl rfl | exact .inr ⟨_, _, by constructor⟩ | cases h

/-- The parts of the state that a mailbox command owns, apart from those that every command may change. -/
def ownParts : Instr → List Part
  | .resetDevice => [.request]
  | .loadEntry => [.entries]
  | .setClass => [.classes]
  | .restoreLayout => [.classes, .entries]
  | .setChord | .setConfig | .loadConfig => [.config]
  | .setLocks => [.locks]
  | .endHold => [.held]
  | .insert => [.records]
  | .flush => [.records, .repetition]
  | .setRoute => [.routes]
  | .setTime _ => [.calendar, .counters, .setFlags]
  | .setDate _ => [.calendar, .setFlags]
  | .setAlarm _ | .clearAlarm _ => [.alarm]
  | .setAdjust _ => [.adjust]
  | .backupWrite _ | .clearResetRecord _ | .saveConfig _ => [.memory]
  | .watchdogSet => [.watchdog]
  | _ => []

/-- The parts that a mailbox command step may change: the mailbox, its latch, the fault record, the mark of a cut, and its
own. -/
def commandParts (c : Instr) : List Part := [.mailbox, .latches, .fault, .cut] ++ ownParts c

theorem completeOk_of_frame {parts : List Part} {s u : State} (h : Frame parts s u)
    (hsub : [Part.mailbox, .latches] ⊆ parts := by decide) : Frame parts s (completeOk u) :=
  completes_frame .ok Row.zero h hsub

theorem watchdogSetAct_frame (s : State) : Frame [.mailbox, .latches, .watchdog] s (watchdogSetAct s) := by
  unfold watchdogSetAct
  exact Frame.ite (Frame.ite (completes_frame _ _ (setWatchdog_frame _ s).mono)
      (completes_frame _ _ (setWatchdog_frame _ s).mono))
    (Frame.ite (completes_frame _ _ (setWatchdog_frame _ s).mono) (completes_frame _ _ (setWatchdog_frame _ s).mono))

theorem commandBody_frame {c : Instr} {code : Byte} {body : State → State} (h : CommandBody c code body) (s : State) :
    Frame (commandParts c) s (body s) := by
  cases h with
  | echo | readKeystate | readTime | readAlarm | readResetRecord => exact (complete_frame _ _ s).mono
  | resetDevice => exact (requestReset_frame _ s).mono
  | loadEntry => exact withChecks_frame (completeOk_of_frame (setEntries_frame _ s).mono)
  | readEntry =>
    exact withChecks_frame (Frame.ite (complete_frame _ _ s).mono ((complete_frame _ _ s).trans (capture_frame _ _)))
  | setClass => exact withChecks_frame (completeOk_of_frame (setClasses_frame _ s).mono)
  | readClass | readChord | readRoute | readConfig | backupRead => exact withChecks_frame (complete_frame _ _ s).mono
  | restoreLayout => exact completeOk_of_frame (restoreLayout_frame s).mono
  | setChord | setConfig => exact withChecks_frame (completeOk_of_frame (setConfiguration_frame _ s).mono)
  | setLocks => exact withChecks_frame (completeOk_of_frame (setToggles_frame _ s).mono)
  | endHold => exact completeOk_of_frame (Frame.ite (leaveHeld_frame s).mono (Frame.refl _ s))
  | insert => exact Frame.ite (completes_frame _ _ (appendRecord_frame _ s).mono) (complete_frame _ _ s).mono
  | flush => exact completes_frame _ _ ((emptyQueue_frame s).trans (cancelRepeat_frame _))
  | setRoute => exact withChecks_frame (completeOk_of_frame (setRoutes_frame _ s).mono)
  | setTime cut =>
    show Frame ([.mailbox, .latches, .fault, .cut] ++ [.calendar, .counters, .setFlags]) s _
    exact withChecksCut_frame (allOrNothing_frame (writeTime_frame s).mono fun u => (completeOk_frame u).mono)
  | setDate cut =>
    show Frame ([.mailbox, .latches, .fault, .cut] ++ [.calendar, .setFlags]) s _
    exact withChecksCut_frame (allOrNothing_frame (writeDate_frame s).mono fun u => (completeOk_frame u).mono)
  | setAlarm cut =>
    show Frame ([.mailbox, .latches, .fault, .cut] ++ [.alarm]) s _
    exact withChecksCut_frame (Frame.ite (allOrNothing_frame (Frame.refl _ s) fun u => (complete_frame _ _ u).mono)
      (allOrNothing_frame (writeAlarm_frame s).mono fun u => (completeOk_frame u).mono))
  | clearAlarm cut =>
    show Frame ([.mailbox, .latches, .fault, .cut] ++ [.alarm]) s _
    exact allOrNothing_frame (disarmAlarm_frame s).mono fun u => (completeOk_frame u).mono
  | setAdjust cut =>
    show Frame ([.mailbox, .latches, .fault, .cut] ++ [.adjust]) s _
    exact withChecksCut_frame (allOrNothing_frame (setAdjustValue_frame _ s).mono fun u => (complete_frame _ _ u).mono)
  | backupWrite cut =>
    show Frame ([.mailbox, .latches, .fault, .cut] ++ [.memory]) s _
    exact withChecksCut_frame (writeBackup_frame _ _ s).mono
  | clearResetRecord cut | saveConfig cut =>
    show Frame ([.mailbox, .latches, .fault, .cut] ++ [.memory]) s _
    exact (writeBackup_frame _ _ s).mono
  | loadConfig => exact completes_frame _ _ (loadConfig_frame s).mono
  | watchdogSet => exact withChecks_frame (watchdogSetAct_frame s).mono

theorem badCommandBody_frame (s : State) : Frame [.mailbox, .latches, .fault] s (badCommandBody s) :=
  (complete_frame _ _ s).trans (capture_frame _ _)

/-! ### Host accesses -/

/-- The action of a host write at some address of the register window (section 1.2.2). -/
inductive HostAction : (State → State) → Prop where
  | nothing : HostAction id
  | lamps (d : Byte) : HostAction (writeLamps d)
  | command (d : Byte) : HostAction (startCommand d)
  | argument (i : Nat) (d : Byte) : HostAction (writeArg i d)
  | takeHead : HostAction removeHead
  | stopScan : HostAction stopScanning
  | startScan : HostAction startScanning
  | switch (d : Byte) : HostAction (writeSwitch d)
  | release : HostAction releaseLevel
  | writeLatch (d : Byte) : HostAction (fillWriteLatch d)
  | enables (d : Byte) : HostAction (fun s => setEnables (committed d s) s)
  | disables (d : Byte) : HostAction (fun s => clearEnables (committed d s) s)
  | requests (d : Byte) : HostAction (fun s => setSoft (committed d s) s)
  | withdraws (d : Byte) : HostAction (fun s => clearSoft (committed d s) s)
  | sources (d : Byte) : HostAction (fun s => clearSources (committed d s) s)
  | identify (d : Byte) : HostAction (startIdentify d)
  | kick : HostAction kickWatchdog

/-- The side effect of a host read, the unlocking of the fault record apart (R1). -/
inductive ReadEffect : (State → State) → Prop where
  | nothing : ReadEffect id
  | lost : ReadEffect clearLost
  | snapshot : ReadEffect takeSnapshot
  | accept : ReadEffect acceptLevel
  | readLatch (value : State → Half) : ReadEffect (fillReadLatch value)

/-- Every address of the window has one of these actions when written. -/
theorem writeAction_hostAction (a : Addr) (d : Byte) : HostAction (writeAction a d) := by
  unfold writeAction writeScanc
  split
  case h_12 => split; constructor; split <;> constructor
  all_goals constructor

/-- Every address of the window has one of these effects when read, but for FLDB. -/
theorem readEffect_cases (a : Addr) : ReadEffect (readEffect a) ∨ readEffect a = unlockFault ∧ a = 0x3E#6 := by
  unfold readEffect
  split
  case h_7 h => exact .inr ⟨rfl, BitVec.eq_of_toNat_eq h⟩
  all_goals exact .inl (by constructor)

/-- The command is a host read. -/
def ReadsPort (c : Instr) : Prop :=
  (∃ a, c = .lowByteRead a) ∨ c = .tqlostRead ∨ c = .headSnapshot ∨ c = .accept ∨ c = .fldbRead

/-- A host access is a host write with one of the actions, or a host read with one of the effects. -/
theorem exec_hostAccess {c : Instr} (h : kindOf c = .hostAccess) :
    (¬ ReadsPort c ∧ ∃ act, HostAction act ∧ ∀ s, exec c s = .next (hostWrite act s)) ∨
    (ReadsPort c ∧ ∃ value effect,
      (ReadEffect effect ∨ effect = unlockFault ∧ (c = .fldbRead ∨ c = .lowByteRead 0x3E#6)) ∧
      ∀ s, exec c s = .next (hostRead value effect s)) := by
  cases c
  case registerWrite a d | lowByteWrite a d =>
    exact .inl ⟨by simp [ReadsPort], _, writeAction_hostAction a d, fun _ => rfl⟩
  case lowByteRead a =>
    refine .inr ⟨.inl ⟨a, rfl⟩, readValue a, readEffect a, ?_, fun _ => rfl⟩
    exact (readEffect_cases a).imp_right fun ⟨he, ha⟩ => ⟨he, .inr (by rw [ha])⟩
  case lampsWrite d => exact .inl ⟨by simp [ReadsPort], _, .lamps d, fun _ => rfl⟩
  case mbcmdWrite d => exact .inl ⟨by simp [ReadsPort], _, .command d, fun _ => rfl⟩
  case tqlostRead => exact .inr ⟨by simp [ReadsPort], _, _, .inl .lost, fun _ => rfl⟩
  case headSnapshot => exact .inr ⟨by simp [ReadsPort], _, _, .inl .snapshot, fun _ => rfl⟩
  case tqtake d => exact .inl ⟨by simp [ReadsPort], _, .takeHead, fun _ => rfl⟩
  case scancStop => exact .inl ⟨by simp [ReadsPort], _, .stopScan, fun _ => rfl⟩
  case scancRun => exact .inl ⟨by simp [ReadsPort], _, .startScan, fun _ => rfl⟩
  case lvctlWrite d => exact .inl ⟨by simp [ReadsPort], _, .switch d, fun _ => rfl⟩
  case accept => exact .inr ⟨by simp [ReadsPort], _, _, .inl .accept, fun _ => rfl⟩
  case release d => exact .inl ⟨by simp [ReadsPort], _, .release, fun _ => rfl⟩
  case lvens d => exact .inl ⟨by simp [ReadsPort], _, .enables d, fun _ => rfl⟩
  case lvenc d => exact .inl ⟨by simp [ReadsPort], _, .disables d, fun _ => rfl⟩
  case lvrqs d => exact .inl ⟨by simp [ReadsPort], _, .requests d, fun _ => rfl⟩
  case lvrqc d => exact .inl ⟨by simp [ReadsPort], _, .withdraws d, fun _ => rfl⟩
  case srccl d => exact .inl ⟨by simp [ReadsPort], _, .sources d, fun _ => rfl⟩
  case idstart d => exact .inl ⟨by simp [ReadsPort], _, .identify d, fun _ => rfl⟩
  case fldbRead => exact .inr ⟨by simp [ReadsPort], _, _, .inr ⟨rfl, .inl rfl⟩, fun _ => rfl⟩
  case wdkick d => exact .inl ⟨by simp [ReadsPort], _, .kick, fun _ => rfl⟩
  all_goals cases h

/-- The parts that a host write may change. -/
def hostActionParts : List Part :=
  [.writeLatch, .mailbox, .positions, .raw, .scanTimer, .scanRun, .modKeys, .compose, .lamps, .records, .repetition,
   .latches, .enables, .soft, .switch, .stack, .identify, .fault, .wake, .watchdog]

theorem startCommand_frame (d : Byte) (s : State) : Frame [.mailbox, .fault] s (startCommand d s) :=
  Frame.ite (capture_frame _ s).mono (setMailbox_frame _ s).mono

theorem stopScanning_frame (s : State) :
    Frame [.scanRun, .scanTimer, .positions, .raw, .modKeys, .compose, .repetition] s (stopScanning s) := by
  have hscan : Frame [.scanRun, .scanTimer, .positions, .raw] s
      { s with scan := { s.scan with run := false, timer := 0, ready := false, positions := [], raw := 0 } } := by
    refine ⟨rfl, rfl, rfl, ⟨rfl, rfl, rfl⟩, fun p hp => ?_⟩
    cases p <;> simp_all [Part.same]
  exact Frame.ite (hscan.trans (forgetKeys_frame _)) (Frame.refl _ s)

theorem startScanning_frame (s : State) : Frame [.scanRun, .scanTimer] s (startScanning s) := by
  have hrun : Frame [.scanRun] s { s with scan := { s.scan with run := true } } := by
    refine ⟨rfl, rfl, rfl, ⟨rfl, rfl, rfl⟩, fun p hp => ?_⟩
    cases p <;> simp_all [Part.same]
  exact Frame.ite (Frame.refl _ s) (hrun.trans (restartScanTimer_frame _))

theorem writeSwitch_frame (d : Byte) (s : State) : Frame [.switch] s (writeSwitch d s) :=
  Frame.ite (setSwitch_frame _ s) (Frame.ite (setSwitch_frame _ s) (Frame.refl _ s))

theorem acceptLevel_frame (s : State) : Frame [.stack] s (acceptLevel s) := by
  unfold acceptLevel
  split
  · exact setStack_frame _ s
  · exact Frame.refl _ s

theorem releaseLevel_frame (s : State) : Frame [.stack, .soft, .fault] s (releaseLevel s) := by
  unfold releaseLevel
  split
  · exact (capture_frame _ s).mono
  · exact (setStack_frame _ s).trans (clearSoft_frame _ _)

theorem clearSources_frame (mask : Half) (s : State) : Frame [.latches, .wake] s (clearSources mask s) :=
  Frame.ite ((clearLatches_frame mask s).trans (clearWake_frame _)) (clearLatches_frame mask s).mono

theorem startIdentify_frame (d : Byte) (s : State) : Frame [.identify, .fault] s (startIdentify d s) :=
  Frame.ite (capture_frame _ s).mono
    (Frame.ite ((postResult_frame _ _ s).trans (capture_frame _ _)) (setIdentify_frame _ s).mono)

theorem kickWatchdog_frame (s : State) : Frame [.watchdog] s (kickWatchdog s) :=
  Frame.ite (Frame.refl _ s) (setWatchdog_frame _ s)

theorem hostAction_frame {act : State → State} (h : HostAction act) (s : State) : Frame hostActionParts s (act s) := by
  cases h with
  | nothing => exact Frame.refl _ s
  | lamps d => exact (writeLamps_frame d s).mono
  | command d => exact (startCommand_frame d s).mono
  | argument i d => exact (writeArg_frame i d s).mono
  | takeHead => exact (removeHead_frame s).mono
  | stopScan => exact (stopScanning_frame s).mono
  | startScan => exact (startScanning_frame s).mono
  | switch d => exact (writeSwitch_frame d s).mono
  | release => exact (releaseLevel_frame s).mono
  | writeLatch d => exact (fillWriteLatch_frame d s).mono
  | enables d => exact (setEnables_frame _ s).mono
  | disables d => exact (clearEnables_frame _ s).mono
  | requests d => exact (setSoft_frame _ s).mono
  | withdraws d => exact (clearSoft_frame _ s).mono
  | sources d => exact (clearSources_frame _ s).mono
  | identify d => exact (startIdentify_frame d s).mono
  | kick => exact (kickWatchdog_frame s).mono

theorem readEffect_frame {effect : State → State} (h : ReadEffect effect) (s : State) :
    Frame [.lost, .headLatch, .stack, .readLatch] s (effect s) := by
  cases h with
  | nothing => exact Frame.refl _ s
  | lost => exact (clearLost_frame s).mono
  | snapshot => exact (takeSnapshot_frame s).mono
  | accept => exact (acceptLevel_frame s).mono
  | readLatch value => exact (fillReadLatch_frame value s).mono

/-! ### The identify engine -/

theorem internalResult_frame (n : Nat) (s : State) : Frame [.latches, .wake, .identify] s (internalResult n s) :=
  (Frame.ite (c := n = 6) ((clearLatches_frame _ s).trans (clearWake_frame _)) (clearLatches_frame _ s).mono :
    Frame [.latches, .wake] s _).trans (postResult_frame _ _ _)

theorem emptyResult_frame (l : Level) (s : State) : Frame [.identify, .fault] s (emptyResult l s) :=
  Frame.ite (postResult_frame _ _ s).mono ((postResult_frame _ _ s).trans (capture_frame _ _))

theorem startCycle_frame (c : ChainClass) (s : State) : Frame [.identify, .fault] s (startCycle c s) :=
  Frame.ite ((postResult_frame _ _ s).trans (capture_frame _ _)) (setIdentify_frame _ s).mono

theorem selectionBody_frame (s : State) : Frame [.latches, .wake, .identify, .fault] s (selectionBody s) := by
  unfold selectionBody
  simp only
  split
  · exact (emptyResult_frame _ s).mono
  · exact Frame.ite (startCycle_frame _ s).mono (Frame.ite (startCycle_frame _ s).mono (internalResult_frame _ s).mono)

theorem completionBody_frame (c : ChainCycle) (o : ChainOutcome) (s : State) :
    Frame [.identify, .fault] s (completionBody c o s) := by
  have hpost : Frame [.identify] s (postResult (chainSource c.cls) (cycleResult c.cls (s.id.level.getD 0) o).1
      { s with id := { s.id with cycle := none } }) := (setIdentify_frame _ s).trans (postResult_frame _ _ _)
  exact hpost.trans (captureAll_frame _ _)

/-! ### Key events -/

theorem releaseRepeat_frame (p : Position) (s : State) : Frame [.repetition] s (releaseRepeat p s) := by
  unfold releaseRepeat
  split
  · exact Frame.ite (cancelRepeat_frame s) (Frame.refl _ s)
  · exact Frame.refl _ s

theorem completeCompose_frame (s : State) : Frame [.records, .lost, .latches, .compose] s (completeCompose s) :=
  (Frame.ite (offer_frame _ s) (Frame.refl _ s)).trans (clearCompose_frame _)

/-- The parts that a release event may change (R59, R60). -/
theorem releaseEvent_frame (p : Position) (s : State) :
    Frame [.modKeys, .compose, .records, .lost, .latches, .repetition] s (releaseEvent p s) := by
  have hkeys := setModKeys_frame (s.tr.modKeys.filter (fun k => k.1 != p)) s
  exact (Frame.ite (hkeys.trans (completeCompose_frame _)) hkeys.mono :
    Frame [.modKeys, .records, .lost, .latches, .compose] s _).trans (releaseRepeat_frame p _)

/-- The parts that a press event may change (R48 to R58). -/
def pressParts : List Part :=
  [.modKeys, .locks, .held, .compose, .lastChord, .records, .lost, .repetition, .latches, .request]

theorem chordAction_frame (i : Fin 4) (s : State) : Frame pressParts s (chordAction i s) := by
  unfold chordAction
  split
  · exact (recordChord_frame i s).mono
  · exact ((cancelRepeat_frame s).trans (emptyQueue_frame _) : Frame [.repetition, .records] s _).trans
      ((appendRecord_frame _ _).trans (recordChord_frame i _) : Frame [.records, .lastChord, .latches] _ _)
  · exact ((setHeld_frame true s).trans (cancelRepeat_frame _) : Frame [.held, .repetition] s _).trans
      (setLatch_frame _ _)
  · exact (requestReset_frame _ s).mono

theorem translatePress_frame (c : KeyClass) (p : Position) (s : State) :
    Frame [.records, .lost, .latches, .repetition] s (translatePress c p s).1 := by
  unfold translatePress
  simp only
  split
  · exact Frame.refl _ s
  · split
    · exact Frame.refl _ s
    · exact (offer_frame _ s).trans (armRepeat_frame _ _ _)

theorem pressTranslating_frame (c : KeyClass) (p : Position) (s : State) :
    Frame pressParts s (pressTranslating c p s).1 := by
  unfold pressTranslating
  simp only
  have hcancel := cancelRepeat_frame s
  split
  · exact hcancel.trans ((clearCompose_frame _).trans (chordAction_frame _ _) : Frame pressParts _ _)
  · split
    · split
      · exact hcancel.trans (addDigit_frame _ _)
      · exact hcancel.trans ((clearCompose_frame _).trans (translatePress_frame c p _) : Frame pressParts _ _)
    · exact hcancel.trans (translatePress_frame c p _)

theorem pressEvent_frame (p : Position) (s : State) : Frame pressParts s (pressEvent p s).1 := by
  unfold pressEvent
  simp only
  split
  · exact (setModKeys_frame _ s).mono
  · split
    · exact (leaveHeld_frame s).mono
    · split
      · exact (setToggles_frame _ s).mono
      · exact (setToggles_frame _ s).mono
      · exact (setToggles_frame _ s).mono
      · exact (setToggles_frame _ s).trans (pressTranslating_frame _ p _)
      · exact Frame.refl _ s
      · exact pressTranslating_frame _ p s

/-- An operation that keeps a frame at every state keeps it along a run of operations. -/
theorem Frame.foldl {α : Type} {parts : List Part} {f : State → α → State} (hf : ∀ s a, Frame parts s (f s a))
    (l : List α) (s : State) : Frame parts s (l.foldl f s) := by
  induction l generalizing s with
  | nil => exact Frame.refl _ s
  | cons a rest ih => exact (hf s a).trans (ih _) (List.Subset.refl _) (List.Subset.refl _)

theorem deliverPresses_frame (l : List Position) (s : State) : Frame pressParts s (deliverPresses l s).1 := by
  induction l generalizing s with
  | nil => exact Frame.refl _ s
  | cons p rest ih => exact (pressEvent_frame p s).trans (ih _)

/-! ### The scan pass -/

/-- The parts that a scan pass may change. -/
def passParts : List Part :=
  [.positions, .raw, .lastBlocked, .scanTimer, .modKeys, .locks, .held, .compose, .lastChord, .records, .lost,
   .repetition, .latches, .fault, .request]

theorem setImage_frame (positions : Table PosState) (image : BitVec 128) (s : State) :
    Frame [.positions, .raw] s { s with scan := { s.scan with positions := positions, raw := image } } := by
  refine ⟨rfl, rfl, rfl, ⟨rfl, rfl, rfl⟩, fun p hp => ?_⟩
  cases p <;> simp_all [Part.same]

theorem setLastBlocked_frame (b : Byte) (s : State) :
    Frame [.lastBlocked] s { s with scan := { s.scan with lastBlocked := b } } := by
  refine ⟨rfl, rfl, rfl, ⟨rfl, rfl, rfl⟩, fun p hp => ?_⟩
  cases p <;> simp_all [Part.same]

theorem reportBlocked_frame (blocked : Option Position) (s : State) :
    Frame [.lastBlocked, .latches] s (reportBlocked blocked s) := by
  unfold reportBlocked
  split
  · exact Frame.refl _ s
  · exact (setLastBlocked_frame _ s).trans (setLatch_frame _ _)

theorem scanPassBody_frame (seen : BitVec 128) (s : State) : Frame passParts s (scanPassBody seen s) := by
  have hreleases (l : List Position) (u : State) : Frame passParts u (l.foldl (fun s p => releaseEvent p s) u) :=
    Frame.foldl (fun u p => (releaseEvent_frame p u).mono) l u
  have himage : Frame passParts s { s with scan := { s.scan with
      positions := (pressStage s (rawImage s.cfg seen) (releaseStage s (rawImage s.cfg seen)).1).positions
      raw := rawImage s.cfg seen } } := (setImage_frame _ _ s).mono
  exact ((((himage.andThen (reportBlocked_frame _ _)).andThen (hreleases _ _)).andThen
    (deliverPresses_frame _ _)).andThen (takePass_frame _)).andThen (captureAll_frame _ _)

/-! ### The tick -/

theorem expireRepeat_frame (p : Position) (r : QRecord) (s : State) :
    Frame [.records, .lost, .latches, .repetition] s (expireRepeat p r s) := by
  have hoffer : Frame [.records, .lost, .latches] s
      (if s.cfg.repeatThrottle = 0 ∨ queueCount s < s.cfg.repeatThrottle.toNat then offer r s else s) :=
    Frame.ite (offer_frame r s) (Frame.refl _ s)
  exact hoffer.trans (setRepeat_frame _ _)

theorem repeatTick_frame (s : State) : Frame [.records, .lost, .latches, .repetition] s (repeatTick s) := by
  unfold repeatTick
  split
  · exact Frame.refl _ s
  · exact Frame.ite (expireRepeat_frame _ _ s) (setRepeat_frame _ s).mono

theorem watchdogTick_frame (s : State) : Frame [.watchdog, .latches, .request] s (watchdogTick s) := by
  unfold watchdogTick
  exact Frame.ite (Frame.refl _ s) (Frame.ite (setWatchdog_frame _ s).mono
    (Frame.ite ((setWatchdog_frame _ s).trans (setLatch_frame _ _)) (requestReset_frame _ s).mono))

theorem stretchTick_frame (s : State) : Frame [.stretch] s (stretchTick s) := by
  refine Frame.ite ⟨rfl, rfl, rfl, ⟨rfl, rfl, rfl⟩, fun p hp => ?_⟩ (Frame.refl _ s)
  cases p <;> simp_all [Part.same]

theorem setAlarmRecord_frame (a : Alarm) (s : State) : Frame [.alarm] s { s with tk := { s.tk with alarm := a } } := by
  refine ⟨rfl, rfl, rfl, ⟨rfl, rfl, rfl⟩, fun p hp => ?_⟩
  cases p <;> simp_all [Part.same]

theorem setWake_frame (b : Bool) (s : State) : Frame [.wake] s { s with tk := { s.tk with wake := b } } := by
  refine ⟨rfl, rfl, rfl, ⟨rfl, rfl, rfl⟩, fun p hp => ?_⟩
  cases p <;> simp_all [Part.same]

theorem advance_frame (s : State) : Frame [.calendar, .counters] s { s with tk := advance s.tk } := by
  refine ⟨rfl, rfl, rfl, ⟨rfl, rfl, rfl⟩, fun p hp => ?_⟩
  cases p <;> simp_all [Part.same, advance]

/-- The alarm of a tick while the main domain runs fires into its latch (R148). -/
theorem compareAlarm_true_frame (s : State) : Frame [.alarm, .latches] s (compareAlarm true s) :=
  Frame.ite ((setAlarmRecord_frame _ s).trans (setLatch_frame _ _)) (Frame.refl _ s)

/-- Otherwise it fires into the wake flag (R148). -/
theorem compareAlarm_false_frame (s : State) : Frame [.alarm, .wake] s (compareAlarm false s) :=
  Frame.ite ((setAlarmRecord_frame _ s).trans (setWake_frame _ _)) (Frame.refl _ s)

theorem tickItems_false_frame (s : State) : Frame [.calendar, .counters, .alarm, .wake] s (tickItems false s) := by
  have hadvance := advance_frame s
  exact (Frame.ite (hadvance.trans (compareAlarm_false_frame _)) hadvance.mono :
    Frame [.calendar, .counters, .alarm, .wake] s
      (if atBoundary s.tk then compareAlarm false { s with tk := advance s.tk } else { s with tk := advance s.tk }))

/-- A tick of the running main domain keeps to its parts (R140). -/
theorem tickItems_true_frame (s : State) : Frame tickParts s (tickItems true s) := by
  have hadvance : Frame tickParts s { s with tk := advance s.tk } := (advance_frame s).mono
  have hday := hadvance.thenIf (c := atMidnight s.tk) (setLatch_frame .dayChange _)
  have halarm := hday.thenIf (c := atBoundary s.tk) (compareAlarm_true_frame _)
  exact (((Frame.thenIf (Frame.thenIf halarm (setLatch_frame .tick _)) (sampleBattery_frame _)).andThen
    (repeatTick_frame _)).andThen (watchdogTick_frame _)).andThen (stretchTick_frame _)

end Sys2Proof.Machine
end

section
-- One lemma at a time: elaborated side by side they ask for more threads than the memory limit of the check leaves.
set_option Elab.async false
/-!
PROOF. Whole steps: the start and the end of a step as changes, what each kind of step can come to, and the own work of every
mailbox command said once (`commandBody_cases`), for the statements about what every step keeps.
-/

namespace Sys2Proof.Machine

/-! ### Changes of a whole step -/

theorem ChangesOnly.refl (parts : List Part) (s : State) : ChangesOnly parts s s := ⟨rfl, fun p _ => p.same_refl s⟩

theorem ChangesOnly.mono {ps qs : List Part} {s t : State} (h : ChangesOnly ps s t) (hsub : ps ⊆ qs := by decide) :
    ChangesOnly qs s t :=
  ⟨h.1, fun p hp => h.2 p (fun hmem => hp (hsub hmem))⟩

theorem ChangesOnly.trans {ps : List Part} {s t u : State} (hst : ChangesOnly ps s t) (htu : ChangesOnly ps t u) :
    ChangesOnly ps s u :=
  ⟨htu.1.trans hst.1, fun p hp => Part.same_trans (hst.2 p hp) (htu.2 p hp)⟩

/-- The start of a step changes no part. -/
theorem samplePins_changes (parts : List Part) (s : State) : ChangesOnly parts s (samplePins s) :=
  ⟨by simp, fun p _ => samplePins_same p s⟩

/-- The end of a step changes the latches at most. -/
theorem endStep_changes (s : State) : ChangesOnly [.latches] s (endStep s) :=
  ⟨by simp, fun p hp => part_same_endStep (p.same_refl s) (by simpa using hp)⟩

/-- A whole step around own work within `parts`. -/
theorem step_changes {ps qs : List Part} {s u : State} (h : ChangesOnly ps (samplePins s) u)
    (hps : ps ⊆ qs := by decide) (hlatches : [Part.latches] ⊆ qs := by decide) : ChangesOnly qs s (endStep u) :=
  ((samplePins_changes qs s).trans (h.mono hps)).trans ((endStep_changes u).mono hlatches)

/-- The own work of a step of the running main domain, as a frame, gives the frame of the whole step. -/
theorem mainStep_of_frame {parts : List Part} {s u : State} (hr : Runs s) (h : Frame parts (samplePins s) u)
    (hpower : Part.power ∉ parts := by decide) : MainStep u.lv.latches parts s (endStep u) := by
  have hsame (p : Part) (hp : p ∉ parts) : p.same s u := Part.same_trans (samplePins_same p s) (h.same p hp)
  exact mainStep_endStep hr (hsame _ hpower) h.env (by simp [h.pwrLow]) rfl (by simp [h.pending])
    (fun p hp => hsame p (fun hmem => hp (List.mem_cons_of_mem _ hmem)))

/-- The same for own work that sets and clears no latch. -/
theorem quietStep_of_frame {parts : List Part} {s u : State} (hr : Runs s) (h : Frame parts (samplePins s) u)
    (hpower : Part.power ∉ parts := by decide) (hlatches : Part.latches ∉ parts := by decide) :
    QuietStep parts s (endStep u) := by
  have hlat : u.lv.latches = s.lv.latches := Part.same_trans (samplePins_same .latches s) (h.same _ hlatches)
  rw [QuietStep, ← hlat]
  exact mainStep_of_frame hr h hpower

/-- A started command whose own work is a frame and which then completes (R13). -/
theorem completes_of_frame {code : Byte} {parts : List Part} {s u : State} {r : ResultCode} {out : Row}
    (h : Started code s) (hu : Frame parts (samplePins s) u) (hpower : Part.power ∉ parts := by decide)
    (hlatches : Part.latches ∉ parts := by decide) (hmailbox : Part.mailbox ∉ parts := by decide) :
    Completes r out parts s (endStep (complete r out u)) := by
  have hsame (p : Part) (hp : p ∉ parts) : p.same s u := Part.same_trans (samplePins_same p s) (hu.same p hp)
  exact completes_of_body h (hsame _ hpower) hu.env (by simp [hu.pwrLow]) (hsame _ hlatches) (by simp [hu.pending])
    (hsame _ hmailbox) hsame

/-- A command that completes and then captures a fault (R14, R64). -/
theorem completes_capture_of_frame {code : Byte} {s u : State} {r : ResultCode} {out : Row} {parts : List Part}
    (f : FaultReport) (h : Started code s) (hu : Frame parts (samplePins s) u) (hpower : Part.power ∉ parts := by decide)
    (hlatches : Part.latches ∉ parts := by decide) (hmailbox : Part.mailbox ∉ parts := by decide) :
    Completes r out (.fault :: parts) s (endStep (capture f (complete r out u))) ∧
      (endStep (capture f (complete r out u))).fault = recordAfter f u.fault := by
  have hcaptured : Frame (.fault :: parts) (samplePins s) (capture f u) :=
    hu.trans (capture_frame f u) (List.subset_cons_self _ _) (by simp)
  exact ⟨completes_of_frame (u := capture f u) h hcaptured (by simpa using hpower) (by simpa using hlatches)
    (by simpa using hmailbox), by simp⟩

/-! ### Host accesses and mailbox command steps as changes -/

theorem hostWrite_changes {parts : List Part} {act : State → State} (s : State)
    (hact : Frame parts (samplePins s) (act (samplePins s))) (hlatches : [Part.latches] ⊆ parts := by decide) :
    ChangesOnly parts s (hostWrite act s) := by
  obtain ⟨-, hw⟩ | ⟨-, hw⟩ | hw := hostWrite_cases act s <;> rw [hw]
  · exact step_changes hact.changesOnly (List.Subset.refl _) hlatches
  · exact step_changes (ChangesOnly.refl parts _) (List.Subset.refl _) hlatches
  · exact ChangesOnly.refl _ s

theorem hostRead_changes {parts : List Part} {value : State → Byte} {effect : State → State} (s : State)
    (heffect : Frame parts (samplePins s) (effect (samplePins s))) (hlatches : [Part.latches] ⊆ parts := by decide)
    (hbus : [Part.dataBus] ⊆ parts := by decide) : ChangesOnly parts s (hostRead value effect s) := by
  obtain ⟨-, hr⟩ | ⟨-, hr⟩ | hr | hr := hostRead_cases value effect s <;> rw [hr]
  · exact step_changes (heffect.andThen (driveBus_frame _ _) hbus).changesOnly (List.Subset.refl _) hlatches
  · exact step_changes ((driveBus_frame 0 _).changesOnly) hbus hlatches
  · exact ((driveBus_frame 0 s).mono hbus).changesOnly
  · exact ChangesOnly.refl _ s

/-! ### Argument checks -/

theorem firstFailing_eq_none {checks : List (Bool × Nat)} (h : firstFailing checks = none) :
    ∀ c ∈ checks, c.1 = true := by
  induction checks with
  | nil => simp
  | cons c rest ih =>
    obtain ⟨good, i⟩ := c
    rw [firstFailing_cons] at h
    split at h
    · next hgood => exact List.forall_mem_cons.2 ⟨hgood, ih h⟩
    · cases h

/-! ### The own work of a mailbox command -/

/-- What a mailbox command writes, apart from its completion: nothing where its checks fail or its step is cut before its
changes, and otherwise its own, from arguments that have passed its checks. -/
inductive OwnWork : Instr → State → State → Prop where
  | nothing (c : Instr) (s : State) : OwnWork c s s
  | request (s : State) : OwnWork .resetDevice s (requestReset .soft s)
  | entry (k : Nat) (e : Entry) (s : State) (hk : k < 640) :
      OwnWork .loadEntry s { s with tr := { s.tr with entries := Table.set builtInEntry s.tr.entries k e } }
  | classRecord (k : Nat) (e : KeyClass) (s : State) (hk : k < 128) :
      OwnWork .setClass s { s with tr := { s.tr with classes := Table.set builtInClass s.tr.classes k e } }
  | layout (s : State) : OwnWork .restoreLayout s (restoreLayout s)
  | field (id : Nat) (v : Byte) (s : State) (hv : fieldInRange id v = true) :
      OwnWork .setConfig s { s with cfg := fieldSet s.cfg id v }
  | chord (chords : Vector Chord 4) (s : State) : OwnWork .setChord s { s with cfg := { s.cfg with chords := chords } }
  | load (s : State) : OwnWork .loadConfig s (loadConfig s)
  | locks (l : Locks) (s : State) : OwnWork .setLocks s { s with tr := { s.tr with locks := l } }
  | unhold (s : State) : OwnWork .endHold s (leaveHeld s)
  | insert (r : QRecord) (s : State) (hroom : s.tq.records.length < 32) : OwnWork .insert s (appendRecord r s)
  | flush (s : State) : OwnWork .flush s (cancelRepeat (emptyQueue s))
  | route (routes : Vector (BitVec 4) 13) (s : State) : OwnWork .setRoute s { s with lv := { s.lv with routes := routes } }
  | time (cut : Option Nat) (s : State)
      (hrange : s.mb.work[0].toNat ≤ 23 ∧ s.mb.work[1].toNat ≤ 59 ∧ s.mb.work[2].toNat ≤ 59) :
      OwnWork (.setTime cut) s (writeTime s)
  | date (cut : Option Nat) (s : State)
      (hrange : s.mb.work[0].toNat ≤ 99 ∧ (1 ≤ s.mb.work[1].toNat ∧ s.mb.work[1].toNat ≤ 12) ∧
        (1 ≤ s.mb.work[2].toNat ∧ s.mb.work[2].toNat ≤ monthLength s.mb.work[0].toNat s.mb.work[1].toNat) ∧
        s.mb.work[3].toNat ≤ 6) : OwnWork (.setDate cut) s (writeDate s)
  | alarm (cut : Option Nat) (s : State) : OwnWork (.setAlarm cut) s (writeAlarm s)
  | disarm (cut : Option Nat) (s : State) : OwnWork (.clearAlarm cut) s (disarmAlarm s)
  | adjust (cut : Option Nat) (b : Byte) (s : State) (hb : adjustGood b = true) :
      OwnWork (.setAdjust cut) s { s with tk := { s.tk with adjust := b } }
  | memory (c : Instr) (ws : List (Nat × Byte)) (s : State)
      (hc : ∃ cut, c = .backupWrite cut ∨ c = .clearResetRecord cut ∨ c = .saveConfig cut) (hws : ∀ w ∈ ws, w.1 < 64) :
      OwnWork c s { s with mem := memWrites s.mem ws }
  | watchdog (w : Watchdog) (s : State) (hw : s.wd.state ≠ .disabled → w.state ≠ .disabled) :
      OwnWork .watchdogSet s { s with wd := w }

/-- How a mailbox command ends after its own work `u`: it posts a result, with or without a fault, or is cut short, or never
completes (R13, R16, R7). -/
inductive CommandEnds (u : State) : State → Prop where
  | never : CommandEnds u u
  | posts (r : ResultCode) (out : Row) : CommandEnds u (complete r out u)
  | reports (r : ResultCode) (out : Row) (f : FaultReport) : CommandEnds u (capture f (complete r out u))
  | cut : CommandEnds u (markCut u)

/-- A command does its own work and ends. -/
def WorksAndEnds (c : Instr) (s t : State) : Prop := ∃ u, OwnWork c s u ∧ CommandEnds u t

theorem worksAndEnds_withChecks {c : Instr} {checks : List (Bool × Nat)} {act : State → State} {s : State}
    (hact : (∀ k ∈ checks, k.1 = true) → WorksAndEnds c s (act s)) : WorksAndEnds c s (withChecks checks act s) := by
  unfold withChecks
  split
  · exact ⟨s, .nothing c s, .reports _ _ _⟩
  · next h => exact hact (firstFailing_eq_none h)

theorem worksAndEnds_withChecksCut {c : Instr} {cut : Option Nat} {checks : List (Bool × Nat)} {act : State → State}
    {s : State} (hact : (∀ k ∈ checks, k.1 = true) → WorksAndEnds c s (act s)) :
    WorksAndEnds c s (withChecksCut cut checks act s) := by
  unfold withChecksCut
  split
  · split
    · exact ⟨s, .nothing c s, .cut⟩
    · exact ⟨s, .nothing c s, .reports _ _ _⟩
  · next h => exact hact (firstFailing_eq_none h)

theorem worksAndEnds_allOrNothing {c : Instr} {cut : Option Nat} {change : State → State} {r : ResultCode} {out : Row}
    {s : State} (hchange : OwnWork c s (change s)) :
    WorksAndEnds c s (allOrNothing cut change (complete r out) s) := by
  unfold allOrNothing
  split
  · exact ⟨_, hchange, .posts r out⟩
  · exact ⟨s, .nothing c s, .cut⟩
  · exact ⟨_, hchange, .cut⟩

theorem worksAndEnds_writeBackup {c : Instr} {cut : Option Nat} {bytes : List (Nat × Byte)} {s : State}
    (hc : ∃ cut, c = .backupWrite cut ∨ c = .clearResetRecord cut ∨ c = .saveConfig cut)
    (hbytes : ∀ w ∈ bytes, w.1 < 64) : WorksAndEnds c s (writeBackup cut bytes s) := by
  have hlt := withChecksum_lt (m := s.mem) hbytes
  unfold writeBackup
  split
  · exact ⟨_, .memory c _ s hc hlt, .posts _ _⟩
  · exact ⟨_, .memory c _ s hc (fun w hw => hlt w (List.mem_of_mem_take hw)), .cut⟩

theorem worksAndEnds_watchdogSetAct (s : State) : WorksAndEnds .watchdogSet s (watchdogSetAct s) := by
  unfold watchdogSetAct
  simp only
  split
  · next hd => split <;> exact ⟨_, .watchdog _ s (fun h => absurd hd h), .posts _ _⟩
  · split
    · exact ⟨{ s with wd := { s.wd with pending := s.mb.work[0].setWidth 2 } }, .watchdog _ s id, .posts _ _⟩
    · exact ⟨{ s with wd := s.wd }, .watchdog _ s id, .posts _ _⟩

/-- Everything that the own work of a mailbox command can come to. -/
theorem commandBody_cases {c : Instr} {code : Byte} {body : State → State} (h : CommandBody c code body) (s : State) :
    WorksAndEnds c s (body s) := by
  cases h with
  | echo | readKeystate | readTime | readAlarm | readResetRecord => exact ⟨s, .nothing _ s, .posts _ _⟩
  | resetDevice => exact ⟨_, .request s, .never⟩
  | loadEntry =>
    refine worksAndEnds_withChecks fun hchecks => ⟨_, .entry _ _ s ?_, .posts _ _⟩
    obtain ⟨hposition, hcolumn⟩ : s.mb.work[0].toNat ≤ 127 ∧ s.mb.work[1].toNat ≤ 4 := by simpa [entryChecks] using hchecks
    simp only [entryKey]
    omega
  | readEntry =>
    refine worksAndEnds_withChecks fun _ => ?_
    simp only
    split
    · exact ⟨s, .nothing _ s, .posts _ _⟩
    · exact ⟨s, .nothing _ s, .reports _ _ _⟩
  | setClass =>
    refine worksAndEnds_withChecks fun hchecks => ⟨_, .classRecord _ _ s ?_, .posts _ _⟩
    obtain ⟨hposition, -⟩ : s.mb.work[0].toNat ≤ 127 ∧ _ := by simpa using hchecks
    omega
  | readClass | readChord | readRoute | readConfig | backupRead =>
    exact worksAndEnds_withChecks fun _ => ⟨s, .nothing _ s, .posts _ _⟩
  | restoreLayout => exact ⟨_, .layout s, .posts _ _⟩
  | setChord => exact worksAndEnds_withChecks fun _ => ⟨_, .chord _ s, .posts _ _⟩
  | setLocks => exact worksAndEnds_withChecks fun _ => ⟨_, .locks _ s, .posts _ _⟩
  | endHold =>
    unfold endHoldBody
    split
    · exact ⟨_, .unhold s, .posts _ _⟩
    · exact ⟨s, .nothing _ s, .posts _ _⟩
  | insert =>
    unfold insertBody
    split
    · next hroom => exact ⟨_, .insert _ s hroom, .posts _ _⟩
    · exact ⟨s, .nothing _ s, .posts _ _⟩
  | flush => exact ⟨_, .flush s, .posts _ _⟩
  | setRoute => exact worksAndEnds_withChecks fun _ => ⟨_, .route _ s, .posts _ _⟩
  | setTime cut =>
    refine worksAndEnds_withChecksCut fun hchecks => worksAndEnds_allOrNothing (.time cut s ?_)
    simpa using hchecks
  | setDate cut =>
    refine worksAndEnds_withChecksCut fun hchecks => worksAndEnds_allOrNothing (.date cut s ?_)
    simpa using hchecks
  | setAlarm cut =>
    refine worksAndEnds_withChecksCut fun _ => ?_
    split
    · exact worksAndEnds_allOrNothing (.nothing _ s)
    · exact worksAndEnds_allOrNothing (.alarm cut s)
  | clearAlarm cut => exact worksAndEnds_allOrNothing (.disarm cut s)
  | setAdjust cut =>
    refine worksAndEnds_withChecksCut fun hchecks => worksAndEnds_allOrNothing (.adjust cut _ s ?_)
    simpa using hchecks
  | backupWrite cut =>
    refine worksAndEnds_withChecksCut fun hchecks => worksAndEnds_writeBackup ⟨cut, .inl rfl⟩ (hostBytes_lt ?_)
    obtain ⟨-, -, hend⟩ : s.mb.work[0].toNat ≤ 33 ∧ _ ∧ s.mb.work[0].toNat + s.mb.work[1].toNat ≤ 34 := by
      simpa using hchecks
    exact hend
  | clearResetRecord cut => exact worksAndEnds_writeBackup ⟨cut, .inr (.inl rfl)⟩ (by simp)
  | saveConfig cut => exact worksAndEnds_writeBackup ⟨cut, .inr (.inr rfl)⟩ (imageBytes_lt s.cfg)
  | setConfig =>
    refine worksAndEnds_withChecks fun hchecks => ⟨_, .field _ _ s ?_, .posts _ _⟩
    obtain ⟨-, hv⟩ : fieldNamed s.mb.work[0] = true ∧ _ := by simpa using hchecks
    exact hv
  | loadConfig => exact ⟨_, .load s, .posts _ _⟩
  | watchdogSet => exact worksAndEnds_withChecks fun _ => worksAndEnds_watchdogSetAct s

/-- A mailbox command step changes nothing, or is one whole step of the running main domain with its own work and end. -/
theorem exec_command {c : Instr} (h : kindOf c = .command) (s : State) : exec c s = .next s ∨
    (Runs s ∧ s.mb.state = .busy ∧ ∃ t, WorksAndEnds c (samplePins s) t ∧ exec c s = .next (endStep t)) := by
  obtain rfl | ⟨code, body, hbody⟩ := commandBody_of_kind h
  · by_cases hready : badCommandReady s = true
    · right
      have hready' := hready
      simp only [badCommandReady, Bool.and_eq_true, beq_iff_eq] at hready'
      refine ⟨runs_of_mainRunning hready'.1.1, hready'.1.2, _, ⟨_, .nothing _ _, .reports .badCommand Row.zero
        ⟨.badCommand, .mailbox, runningCode (samplePins s), 0⟩⟩, ?_⟩
      show (Host.Outcome.next (if badCommandReady s then stepOf badCommandBody s else s) :
        Host.Outcome State Fault Refusal) = _
      rw [if_pos hready]
      rfl
    · left
      show (Host.Outcome.next (if badCommandReady s then stepOf badCommandBody s else s) :
        Host.Outcome State Fault Refusal) = _
      rw [if_neg hready]
  · rw [exec_commandBody hbody]
    obtain hidle | ⟨hr, hbusy, -, hstep⟩ := commandStep_cases code body s
    · exact .inl (by rw [hidle])
    · exact .inr ⟨hr, hbusy, _, commandBody_cases hbody _, by rw [hstep]⟩

end Sys2Proof.Machine
end

section
-- One lemma at a time: elaborated side by side they ask for more threads than the memory limit of the check leaves.
set_option Elab.async false
/-!
PROOF. Properties that the operations of the running main domain keep: once a property is kept by each operation
(`KeptByWork`), key events, scan passes, ticks, host accesses and mailbox commands keep it.
-/

namespace Sys2Proof.Machine

/-- The property is kept by the start and the end of a step and by each operation that the blocks of the running main domain
share. -/
structure KeptByWork (P : State → Prop) : Prop where
  sample : ∀ s, P s → P (samplePins s)
  finish : ∀ s, P s → P (endStep s)
  port : ∀ s x, P s → P { s with port := x }
  scanner : ∀ s x, P s → P { s with scan := x }
  translator : ∀ s x, P s → P { s with tr := x }
  repetition : ∀ s x, P s → P { s with rep := x }
  latch : ∀ s l, P s → P (setLatch l s)
  faults : ∀ s fs, P s → P (captureAll fs s)
  offer : ∀ s r, P s → P (offer r s)
  mark : ∀ s, P s → P (appendRecord markerRecord (emptyQueue s))
  request : ∀ s r, r = .soft ∨ r = .watchdog ∨ r = .chord → P s → P (requestReset r s)
  alarm : ∀ s x, P s → P { s with tk := { s.tk with alarm := x } }
  battery : ∀ s x, P s → P { s with sup := { s.sup with batLow := x } }
  watchdog : ∀ s x, (s.wd.state ≠ .disabled → x.state ≠ .disabled) → P s → P { s with wd := x }
  stretch : ∀ s x, P s → P { s with sup := { s.sup with stretchTicks := x } }
  complete : ∀ s r out, P s → P (complete r out s)
  cut : ∀ s, P s → P (markCut s)

namespace KeptByWork

variable {P : State → Prop}

theorem ite (c : Prop) [Decidable c] {t u : State} (ht : P t) (hu : P u) : P (if c then t else u) := by
  split
  · exact ht
  · exact hu

/-! ### Key events -/

theorem releaseEvent (h : KeptByWork P) (p : Position) (s : State) (hs : P s) : P (releaseEvent p s) := by
  have hkeys : P { s with tr := { s.tr with modKeys := s.tr.modKeys.filter (fun k => k.1 != p) } } :=
    h.translator s _ hs
  have hcompose (u : State) (hu : P u) : P (completeCompose u) :=
    h.translator _ _ (ite _ (h.offer u _ hu) hu)
  have hrepeat (u : State) (hu : P u) : P (releaseRepeat p u) := by
    unfold releaseRepeat
    split
    · exact ite _ (h.repetition u _ hu) hu
    · exact hu
  exact hrepeat _ (ite _ (hcompose _ hkeys) hkeys)

theorem chordAction (h : KeptByWork P) (i : Fin 4) (s : State) (hs : P s) : P (chordAction i s) := by
  have hrecord (u : State) (hu : P u) : P (recordChord i u) := h.latch _ _ (h.translator u _ hu)
  unfold Machine.chordAction
  split
  · exact hrecord s hs
  · exact hrecord _ (h.mark _ (h.repetition s _ hs))
  · exact h.latch _ _ (h.repetition _ _ (h.translator s _ hs))
  · exact h.request s _ (.inr (.inr rfl)) hs

theorem translatePress (h : KeptByWork P) (c : KeyClass) (p : Position) (s : State) (hs : P s) :
    P (translatePress c p s).1 := by
  unfold Machine.translatePress
  simp only
  split
  · exact hs
  · split
    · exact hs
    · exact h.repetition _ _ (h.offer s _ hs)

theorem pressTranslating (h : KeptByWork P) (c : KeyClass) (p : Position) (s : State) (hs : P s) :
    P (pressTranslating c p s).1 := by
  have hcancel : P (cancelRepeat s) := h.repetition s _ hs
  unfold Machine.pressTranslating
  simp only
  split
  · exact h.chordAction _ _ (h.translator _ _ hcancel)
  · split
    · split
      · exact h.translator _ _ hcancel
      · exact h.translatePress c p _ (h.translator _ _ hcancel)
    · exact h.translatePress c p _ hcancel

theorem pressEvent (h : KeptByWork P) (p : Position) (s : State) (hs : P s) : P (pressEvent p s).1 := by
  unfold Machine.pressEvent
  simp only
  split
  · exact h.translator s _ hs
  · split
    · exact h.latch _ _ (h.translator s _ hs)
    · split
      · exact h.translator s _ hs
      · exact h.translator s _ hs
      · exact h.translator s _ hs
      · exact h.pressTranslating _ p _ (h.translator s _ hs)
      · exact hs
      · exact h.pressTranslating _ p s hs

theorem releases (h : KeptByWork P) (l : List Position) (s : State) (hs : P s) :
    P (l.foldl (fun s p => Machine.releaseEvent p s) s) := by
  induction l generalizing s with
  | nil => exact hs
  | cons p rest ih => exact ih _ (h.releaseEvent p s hs)

theorem presses (h : KeptByWork P) (l : List Position) (s : State) (hs : P s) : P (deliverPresses l s).1 := by
  induction l generalizing s with
  | nil => exact hs
  | cons p rest ih => exact ih _ (h.pressEvent p s hs)

theorem scanPassBody (h : KeptByWork P) (seen : BitVec 128) (s : State) (hs : P s) : P (scanPassBody seen s) := by
  have hblocked (b : Option Position) (u : State) (hu : P u) : P (reportBlocked b u) := by
    unfold reportBlocked
    split
    · exact hu
    · exact h.latch _ _ (h.scanner u _ hu)
  have htake (u : State) (hu : P u) : P (takePass u) := ite _ (h.scanner u _ hu) (h.scanner u _ hu)
  exact h.faults _ _ (htake _ (h.presses _ _ (h.releases _ _ (hblocked _ _ (h.scanner s _ hs)))))

/-! ### The tick -/

theorem repeatTick (h : KeptByWork P) (s : State) (hs : P s) : P (repeatTick s) := by
  unfold Machine.repeatTick
  split
  · exact hs
  · exact ite _ (h.repetition _ _ (ite _ (h.offer s _ hs) hs)) (h.repetition s _ hs)

theorem watchdogTick (h : KeptByWork P) (s : State) (hs : P s) : P (watchdogTick s) :=
  ite _ hs (ite _ (h.watchdog s _ id hs)
    (ite _ (h.latch _ _ (h.watchdog s _ (fun _ => by simp) hs)) (h.request s _ (.inr (.inl rfl)) hs)))

theorem doIf {f : State → State} (hf : ∀ u, P u → P (f u)) (c : Prop) [Decidable c] {s : State} (hs : P s) :
    P (if c then f s else s) :=
  ite c (hf s hs) hs

/-- A tick of the running main domain keeps what its counting keeps. -/
theorem tickItems (h : KeptByWork P) (s : State) (hclock : P { s with tk := advance s.tk }) : P (tickItems true s) := by
  have halarm (u : State) (hu : P u) : P (compareAlarm true u) := ite _ (h.latch _ _ (h.alarm u _ hu)) hu
  have hday := doIf (fun u => h.latch u .dayChange) (atMidnight s.tk) hclock
  have hfired := doIf halarm (atBoundary s.tk) hday
  exact doIf (fun u => h.stretch u _) _ (h.watchdogTick _ (h.repeatTick _ (doIf (fun u => h.battery u _) _
    (doIf (fun u => h.latch u .tick) _ hfired))))

/-! ### Steps -/

theorem hostWrite (h : KeptByWork P) {act : State → State} {s : State} (hact : P (samplePins s) → P (act (samplePins s)))
    (hs : P s) : P (hostWrite act s) := by
  have hstart := h.sample s hs
  obtain ⟨-, hw⟩ | ⟨-, hw⟩ | hw := hostWrite_cases act s <;> rw [hw]
  · exact h.finish _ (hact hstart)
  · exact h.finish _ hstart
  · exact hs

theorem hostRead (h : KeptByWork P) {value : State → Byte} {effect : State → State} {s : State}
    (heffect : P (samplePins s) → P (effect (samplePins s))) (hs : P s) : P (hostRead value effect s) := by
  have hstart := h.sample s hs
  obtain ⟨-, hr⟩ | ⟨-, hr⟩ | hr | hr := hostRead_cases value effect s <;> rw [hr]
  · exact h.finish _ (h.port _ _ (heffect hstart))
  · exact h.finish _ (h.port _ _ hstart)
  · exact h.port _ _ hs
  · exact hs

theorem commandEnds (h : KeptByWork P) {u t : State} (ht : CommandEnds u t) (hu : P u) : P t := by
  cases ht with
  | never => exact hu
  | posts r out => exact h.complete u r out hu
  | reports r out f => exact h.faults _ [f] (h.complete u r out hu)
  | cut => exact h.cut u hu

/-- A mailbox command keeps what its own work keeps. -/
theorem command (h : KeptByWork P) {c : Instr} {s t : State} (hc : kindOf c = .command)
    (hwork : ∀ u v, OwnWork c u v → P u → P v) (hs : P s) (ht : exec c s = .next t) : P t := by
  obtain hidle | ⟨-, -, v, ⟨u, hu, hv⟩, hstep⟩ := exec_command hc s
  · rw [hidle] at ht
    cases ht
    exact hs
  · rw [hstep] at ht
    cases ht
    exact h.finish _ (h.commandEnds hv (hwork _ _ hu (h.sample s hs)))

/-- A tick step, in whatever state it finds the main domain. -/
theorem tickStep (h : KeptByWork P) {s : State} (hclock : ∀ u, P u → P { u with tk := advance u.tk })
    (hwake : ∀ u, ¬ Runs u → P u → P { u with tk := { u.tk with wake := true } }) (hs : P s) : P (tickStep s) := by
  have hstart := h.sample s hs
  unfold Machine.tickStep
  split
  · split
    · exact h.finish _ (h.tickItems _ (hclock _ hstart))
    · next hrunning =>
      have hheld : ¬ Runs { samplePins s with tk := advance (samplePins s).tk } := fun hr =>
        hrunning (mainRunning_of_runs (by simpa [Runs] using hr))
      have hcounted := hclock _ hstart
      exact ite (atBoundary (samplePins s).tk) (ite _ (hwake _ hheld (h.alarm _ _ hcounted)) hcounted) hcounted
  · exact hs

end KeptByWork

/-- The four tick rows are the tick step, where they take place (R140; log entry 11). -/
theorem exec_tick {c : Instr} (h : kindOf c = .tick) (s : State) : exec c s = .next s ∨ exec c s = .next (tickStep s) := by
  have hite (b : Bool) : (Host.Outcome.next (if b then tickStep s else s) : Host.Outcome State Fault Refusal) = .next s ∨
      (Host.Outcome.next (if b then tickStep s else s) : Host.Outcome State Fault Refusal) = .next (tickStep s) := by
    cases b
    · exact .inl rfl
    · exact .inr rfl
  cases c
  case timebaseTick => exact .inr rfl
  case repeatExpiry => exact hite _
  case firstExpiry => exact hite _
  case secondExpiry => exact hite _
  all_goals cases h

/-! ### What the other steps can come to -/

/-- A step that is taken when it is ready, and otherwise does not take place (log entry 8). -/
theorem takes_or_stays {c : Prop} [Decidable c] {body : State → State} {s t : State}
    (h : (Host.Outcome.next (if c then stepOf body s else s) : Host.Outcome State Fault Refusal) = .next t) :
    t = s ∨ c ∧ t = endStep (body (samplePins s)) := by
  by_cases hc : c
  · rw [if_pos hc] at h
    cases h
    exact .inr ⟨hc, rfl⟩
  · rw [if_neg hc] at h
    cases h
    exact .inl rfl

/-- A selection step (R114). -/
theorem exec_selectionStep {s t : State} (h : exec .selectionStep s = .next t) : t = s ∨
    (Runs s ∧ s.id.state = .run ∧ s.id.cycle = none) ∧ t = endStep (selectionBody (samplePins s)) := by
  obtain hidle | ⟨hready, ht⟩ := takes_or_stays (body := selectionBody) h
  · exact .inl hidle
  · simp only [selectionReady, Bool.and_eq_true, beq_iff_eq] at hready
    exact .inr ⟨⟨runs_of_mainRunning hready.1.1, hready.1.2, hready.2⟩, ht⟩

/-- What a test for a running cycle says. -/
theorem runningCycle_eq_some {s : State} {c : ChainCycle} (h : runningCycle s = some c) :
    Runs s ∧ s.id.state = .run ∧ s.id.cycle = some c := by
  unfold runningCycle at h
  split at h
  · next hrun =>
    simp only [Bool.and_eq_true, beq_iff_eq] at hrun
    exact ⟨runs_of_mainRunning hrun.1, hrun.2, h⟩
  · cases h

/-- An event of the chain line acts in its phase or changes nothing. -/
theorem chainEvent_cases (phase : ChainPhase) (act : ChainCycle → State → State) (s : State) :
    chainEvent phase act s = s ∨ ∃ c, CycleIn s c phase ∧ chainEvent phase act s = act c s := by
  unfold chainEvent
  split
  · next c hc =>
    obtain ⟨hr, hstate, hcycle⟩ := runningCycle_eq_some hc
    split
    · next hphase => exact .inr ⟨c, ⟨hr, hstate, hcycle, hphase⟩, rfl⟩
    · exact .inl rfl
  · exact .inl rfl

/-- The completion of a chain cycle (R122, R123, R125). -/
theorem exec_chainCycleCompletion {s t : State} (h : exec .chainCycleCompletion s = .next t) : t = s ∨
    ∃ c o, CycleIn s c (.settling o) ∧ t = endStep (completionBody c o (samplePins s)) := by
  simp only [exec, execChainCycleCompletion, Host.Outcome.next.injEq] at h
  split at h
  · next c hc =>
    obtain ⟨hr, hstate, hcycle⟩ := runningCycle_eq_some hc
    split at h
    · next o hphase => exact .inr ⟨c, o, ⟨hr, hstate, hcycle, hphase⟩, h.symm⟩
    · exact .inl h.symm
  · exact .inl h.symm

theorem scanPass_of_kind {c : Instr} (h : kindOf c = .scanPass) : ∃ seen, c = .scanPass seen := by
  cases c
  case scanPass seen => exact ⟨seen, rfl⟩
  all_goals cases h

/-- What the model's test of a pass says (R23, R39, R40). -/
theorem scanRuns_iff (s : State) : scanRuns s = true ↔ PassReady s := by
  constructor
  · intro h
    simp only [scanRuns, portOpen, oscillatorRuns, Bool.and_eq_true, beq_iff_eq, Bool.not_eq_true', bne_iff_ne] at h
    obtain ⟨⟨⟨hrunning, hphase⟩, hrun⟩, -, hosc⟩ := h
    have hr := runs_of_mainRunning hrunning
    refine ⟨⟨hr, hphase⟩, hrun, fun hhalted => ?_⟩
    simp [hr.1, hhalted] at hosc
  · rintro ⟨hopen, hrun, hosc⟩
    have hhalted : (s.sup.detector == .halted) = false := by simpa [NotHalted] using hosc
    simp [scanRuns, portOpen_of hopen, hrun, oscillatorRuns, hopen.1.1, hhalted]

/-- A scan pass (R25). -/
theorem exec_scanPass {seen : BitVec 128} {s t : State} (h : exec (.scanPass seen) s = .next t) : t = s ∨
    PassReady s ∧ t = endStep (scanPassBody seen (samplePins s)) := by
  obtain hidle | ⟨hready, ht⟩ := takes_or_stays (body := scanPassBody seen) h
  · exact .inl hidle
  · exact .inr ⟨(scanRuns_iff s).1 hready, ht⟩

/-- A halt detection (R153 to R155): recorded by the detector, and taken as a step where it is ready and no request of this
LSI itself waits. -/
theorem exec_haltDetection {s t : State} (h : exec .haltDetection s = .next t) : t = s ∨
    s.sup.power = .mainOn ∧ s.sup.cutShort = false ∧
      (t = detectHalt s ∨ haltDue (detectHalt s) = true ∧ s.sup.request = none ∧
        t = endStep (haltBody (samplePins (detectHalt s)))) := by
  simp only [exec, execHaltDetection, Host.Outcome.next.injEq] at h
  split at h
  · next hready =>
    refine .inr ⟨hready.1, hready.2, ?_⟩
    split at h
    · next hdue =>
      simp only [Bool.and_eq_true, beq_iff_eq] at hdue
      exact .inr ⟨hdue.1, hdue.2, h.symm⟩
    · exact .inl h.symm
  · exact .inl h.symm

/-- A property that every command keeps, and a CLK period, and that does not read the queue, is kept by every step. -/
theorem keptByEveryStep {P : State → Prop} (hexec : ∀ c s t, P s → exec c s = .next t → P t)
    (hperiod : ∀ s, P s → P (clkPeriod s)) (hqueue : ∀ s q, P s → P { s with pending := q }) : KeptByEveryStep P := by
  intro s t hs ht
  unfold step at ht
  split at ht
  · exact hexec _ _ t (hqueue s _ hs) ht
  · split at ht
    · exact hexec _ s t hs ht
    · cases ht
      exact hperiod s hs

end Sys2Proof.Machine
end

section
-- One lemma at a time: elaborated side by side they ask for more threads than the memory limit of the check leaves.
set_option Elab.async false
/-!
PROOF. Every step keeps the blocks legal. `BlocksLegal` speaks of one block at a time, so that an operation keeps it when the
blocks it writes stay legal: one rule for each block, then each operation, then each kind of step.
-/

namespace Sys2Proof.Machine

/-! ### One rule for each block -/

namespace BlocksLegal

variable {s : State}

theorem withLevels (h : BlocksLegal s) {v : Levels} (hstack : v.stack.Pairwise (· > ·))
    (hlatches : v.latches &&& ~~~0x39FC#16 = 0) (henables : v.enables.getLsbD 15 = true) :
    BlocksLegal { s with lv := v } := by
  obtain ⟨-, -, hqueue, hmailbox, hlost, hcycle, hcal, hcfg, hadjust, hrequest, hhalt⟩ := h
  exact ⟨hstack, ⟨hlatches, henables⟩, hqueue, hmailbox, hlost, hcycle, hcal, hcfg, hadjust, hrequest, hhalt⟩

theorem withQueue (h : BlocksLegal s) {q : Queue} (hq : q.records.length ≤ 32) : BlocksLegal { s with tq := q } := by
  obtain ⟨hstack, hlevels, -, hmailbox, hlost, hcycle, hcal, hcfg, hadjust, hrequest, hhalt⟩ := h
  exact ⟨hstack, hlevels, hq, hmailbox, hlost, hcycle, hcal, hcfg, hadjust, hrequest, hhalt⟩

theorem withMailbox (h : BlocksLegal s) {m : Mailbox} (hm : m.state = .busy ↔ m.running.isSome) :
    BlocksLegal { s with mb := m } := by
  obtain ⟨hstack, hlevels, hqueue, -, hlost, hcycle, hcal, hcfg, hadjust, hrequest, hhalt⟩ := h
  exact ⟨hstack, hlevels, hqueue, hm, hlost, hcycle, hcal, hcfg, hadjust, hrequest, hhalt⟩

theorem withFault (h : BlocksLegal s) {r : FaultRecord} (hr : r.lost ≤ 15) : BlocksLegal { s with fault := r } := by
  obtain ⟨hstack, hlevels, hqueue, hmailbox, -, hcycle, hcal, hcfg, hadjust, hrequest, hhalt⟩ := h
  exact ⟨hstack, hlevels, hqueue, hmailbox, hr, hcycle, hcal, hcfg, hadjust, hrequest, hhalt⟩

theorem withIdentify (h : BlocksLegal s) {i : Identify} (hcycle : i.cycle.isSome → i.state = .run)
    (hlevel : i.state = .run → i.level.isSome) : BlocksLegal { s with id := i } := by
  obtain ⟨hstack, hlevels, hqueue, hmailbox, hlost, -, hcal, hcfg, hadjust, hrequest, hhalt⟩ := h
  exact ⟨hstack, hlevels, hqueue, hmailbox, hlost, ⟨hcycle, hlevel⟩, hcal, hcfg, hadjust, hrequest, hhalt⟩

theorem withTimekeeper (h : BlocksLegal s) {t : Timekeeper} (hcal : CalendarInRange { s with tk := t })
    (hadjust : adjustGood t.adjust = true) : BlocksLegal { s with tk := t } := by
  obtain ⟨hstack, hlevels, hqueue, hmailbox, hlost, hcycle, -, hcfg, -, hrequest, hhalt⟩ := h
  exact ⟨hstack, hlevels, hqueue, hmailbox, hlost, hcycle, hcal, hcfg, hadjust, hrequest, hhalt⟩

theorem withConfig (h : BlocksLegal s) {c : OpConfig} (hc : ConfigInRange { s with cfg := c }) :
    BlocksLegal { s with cfg := c } := by
  obtain ⟨hstack, hlevels, hqueue, hmailbox, hlost, hcycle, hcal, -, hadjust, hrequest, hhalt⟩ := h
  exact ⟨hstack, hlevels, hqueue, hmailbox, hlost, hcycle, hcal, hc, hadjust, hrequest, hhalt⟩

theorem withSupervisor (h : BlocksLegal s) {u : Supervisor} (hrequest : RequestLegal { s with sup := u })
    (hhalt : HaltLegal { s with sup := u }) : BlocksLegal { s with sup := u } := by
  obtain ⟨hstack, hlevels, hqueue, hmailbox, hlost, hcycle, hcal, hcfg, hadjust, -, -⟩ := h
  exact ⟨hstack, hlevels, hqueue, hmailbox, hlost, hcycle, hcal, hcfg, hadjust, hrequest, hhalt⟩

/-! ### What the blocks say -/

theorem stack (h : BlocksLegal s) : s.lv.stack.Pairwise (· > ·) := h.1
theorem latches (h : BlocksLegal s) : s.lv.latches &&& ~~~0x39FC#16 = 0 := h.2.1.1
theorem enables (h : BlocksLegal s) : s.lv.enables.getLsbD 15 = true := h.2.1.2
theorem queue (h : BlocksLegal s) : s.tq.records.length ≤ 32 := h.2.2.1
theorem mailbox (h : BlocksLegal s) : s.mb.state = .busy ↔ s.mb.running.isSome := h.2.2.2.1
theorem lost (h : BlocksLegal s) : s.fault.lost ≤ 15 := h.2.2.2.2.1
theorem cycle (h : BlocksLegal s) : CycleLegal s := h.2.2.2.2.2.1
theorem calendar (h : BlocksLegal s) : CalendarInRange s := h.2.2.2.2.2.2.1
theorem config (h : BlocksLegal s) : ConfigInRange s := h.2.2.2.2.2.2.2.1
theorem adjust (h : BlocksLegal s) : adjustGood s.tk.adjust = true := h.2.2.2.2.2.2.2.2.1
theorem requestLegal (h : BlocksLegal s) : RequestLegal s := h.2.2.2.2.2.2.2.2.2.1
theorem halt (h : BlocksLegal s) : HaltLegal s := h.2.2.2.2.2.2.2.2.2.2

end BlocksLegal

/-! ### Latch words -/

/-- Setting legal latches in a legal word. -/
theorem latchesLegal_or {w b : Half} (hw : w &&& ~~~0x39FC#16 = 0) (hb : b &&& ~~~0x39FC#16 = 0) :
    (w ||| b) &&& ~~~0x39FC#16 = 0 := by
  rw [BitVec.and_comm, BitVec.and_or_distrib_left, BitVec.and_comm, hw, BitVec.and_comm, hb]
  rfl

/-- Clearing latches in a legal word. -/
theorem latchesLegal_and {w : Half} (m : Half) (hw : w &&& ~~~0x39FC#16 = 0) : (w &&& m) &&& ~~~0x39FC#16 = 0 := by
  rw [BitVec.and_assoc, BitVec.and_comm m, ← BitVec.and_assoc, hw]
  simp

theorem latchBit_legal (l : Latch) : latchBit l &&& ~~~0x39FC#16 = 0 := by
  cases l <;> decide

/-! ### Faults, requests, calendar and configuration -/

theorem captureInto_lost_le {r : FaultRecord} (hr : r.lost ≤ 15) (faults : List FaultReport) :
    (captureInto r faults).lost ≤ 15 := by
  unfold captureInto
  split
  · exact hr
  · split <;> exact Nat.min_le_left _ _

/-- A merge of two requests is one of the two (R176). -/
theorem mergeReason_eq_or (a b : ResetReason) : mergeReason a b = a ∨ mergeReason a b = b := by
  unfold mergeReason
  split
  · exact .inl rfl
  · exact .inr rfl

/-- A request of this LSI itself that meets another keeps to the three reasons (R181). -/
theorem requestLegal_merge {s : State} {r : ResetReason} (h : RequestLegal s)
    (hr : r = .soft ∨ r = .watchdog ∨ r = .chord) :
    some (mergeWith s.sup.request r) = some .soft ∨ some (mergeWith s.sup.request r) = some .watchdog ∨
      some (mergeWith s.sup.request r) = some .chord := by
  obtain hnone | hsome := h
  · simpa [hnone, mergeWith] using hr
  · obtain ⟨q, hq⟩ : ∃ q, s.sup.request = some q := by
      obtain h | h | h := hsome <;> exact ⟨_, h⟩
    rw [hq] at hsome ⊢
    simp only [mergeWith, Option.some.injEq] at hsome ⊢
    obtain h | h := mergeReason_eq_or q r <;> rw [h]
    · exact hsome
    · exact hr

theorem monthLength_ge (year month : Nat) : 28 ≤ monthLength year month := by
  unfold monthLength
  split_ifs <;> omega

/-- The carry of a second boundary keeps the calendar in range (R141). -/
theorem carrySecond_inRange {s : State} (h : CalendarInRange s) {t : Timekeeper} (ht : t.cal = carrySecond s.tk.cal)
    (hsub : t.sub < 64) (hadj : t.adjSecond < 64) : CalendarInRange { s with tk := t } := by
  obtain ⟨hsecond, hminute, hhour, hmonth1, hmonth12, hday1, hday, hyear, hweekday, -, -⟩ := h
  simp only [CalendarInRange, ht, carrySecond]
  have hnext := monthLength_ge s.tk.cal.year (s.tk.cal.month + 1)
  have hjanuary := monthLength_ge ((s.tk.cal.year + 1) % 100) 1
  split_ifs <;> simp only <;> omega

/-- The counting of a tick keeps the calendar in range (R139, R141). -/
theorem advance_inRange {s : State} (h : CalendarInRange s) : CalendarInRange { s with tk := advance s.tk } := by
  by_cases hboundary : atBoundary s.tk = true
  · refine carrySecond_inRange h (by simp [advance, hboundary]) (by simp [advance, hboundary]) ?_
    simp only [advance, hboundary, if_true]
    omega
  · have hsub : s.tk.sub + 1 < 64 := by
      simp only [atBoundary, decide_eq_true_eq] at hboundary
      omega
    obtain ⟨hsecond, hminute, hhour, hmonth1, hmonth12, hday1, hday, hyear, hweekday, -, hadj⟩ := h
    simp only [CalendarInRange, advance, hboundary, if_false, Bool.false_eq_true]
    exact ⟨hsecond, hminute, hhour, hmonth1, hmonth12, hday1, hday, hyear, hweekday, hsub, hadj⟩

/-- A field reads as written, and no other field changes (section 1.7). -/
theorem fieldGet_fieldSet (c : OpConfig) {id : Nat} (hid : 1 ≤ id ∧ id ≤ 12) (v : Byte) (k : Nat) :
    fieldGet (fieldSet c id v) k = if k = id then v else fieldGet c k := by
  obtain ⟨h1, h12⟩ := hid
  by_cases hk : k ≤ 12
  · interval_cases id <;> interval_cases k <;> rfl
  · obtain ⟨n, rfl⟩ : ∃ n, k = n + 13 := ⟨k - 13, by omega⟩
    rw [if_neg (by omega)]
    interval_cases id <;> rfl

theorem fieldInRange_id {id : Nat} {v : Byte} (h : fieldInRange id v = true) : 1 ≤ id ∧ id ≤ 12 := by
  by_cases hid : id ≤ 12
  · refine ⟨?_, hid⟩
    by_contra hzero
    obtain rfl : id = 0 := by omega
    cases h
  · obtain ⟨n, rfl⟩ : ∃ n, id = n + 13 := ⟨id - 13, by omega⟩
    cases h

/-- A field that the load repairs takes a default in range (R161). -/
theorem loadedField_inRange (m : Memory) {id : Nat} (h1 : 1 ≤ id) (h12 : id ≤ 12) :
    fieldInRange id (loadedField m id) = true := by
  unfold loadedField
  split
  · next h => exact h
  · interval_cases id <;> rfl

theorem fieldGet_loadedConfig (m : Memory) {id : Nat} (h1 : 1 ≤ id) (h12 : id ≤ 12) :
    fieldGet (loadedConfig m) id = loadedField m id := by
  interval_cases id <;> rfl

theorem loadedConfig_inRange (m : Memory) (s : State) : ConfigInRange { s with cfg := loadedConfig m } := by
  intro id h1 h12
  show fieldInRange id (fieldGet (loadedConfig m) id) = true
  rw [fieldGet_loadedConfig m h1 h12]
  exact loadedField_inRange m h1 h12

/-! ### The operations -/

theorem blocksLegal_endStep {s : State} (h : BlocksLegal s) : BlocksLegal (endStep s) := by
  by_cases hrun : s.sup.power = .mainOn ∧ s.sup.phase ≠ .held
  · rw [endStep_main hrun.1 hrun.2, samplePower_eq]
    have hlatches : (if s.env.pins.vddLow ∧ s.sup.pwrLow = false then s.lv.latches ||| 0x1000#16 else s.lv.latches) &&&
        ~~~0x39FC#16 = 0 := by
      split
      · exact latchesLegal_or h.latches (by decide)
      · exact h.latches
    exact (h.withSupervisor (u := { s.sup with pwrLow := s.env.pins.vddLow }) h.requestLegal h.halt).withLevels
      h.stack hlatches h.enables
  · rw [endStep_held (by tauto)]
    exact h.withLevels h.stack h.latches h.enables

theorem blocksLegal_setLatch {s : State} (h : BlocksLegal s) (l : Latch) : BlocksLegal (setLatch l s) :=
  h.withLevels h.stack (latchesLegal_or h.latches (latchBit_legal l)) h.enables

theorem blocksLegal_samplePins {s : State} (h : BlocksLegal s) : BlocksLegal (samplePins s) := by
  rw [samplePins_eq]
  exact h

theorem blocksLegal_requestReset {s : State} (h : BlocksLegal s) {r : ResetReason}
    (hr : r = .soft ∨ r = .watchdog ∨ r = .chord) : BlocksLegal (requestReset r s) :=
  h.withSupervisor (.inr (requestLegal_merge h.requestLegal hr)) h.halt

theorem blocksLegal_offer {s : State} (h : BlocksLegal s) (r : QRecord) : BlocksLegal (offer r s) := by
  unfold offer
  split
  · next hroom =>
    refine h.withQueue ?_
    simp only [queueCount] at hroom
    simp only [List.length_append, List.length_singleton]
    omega
  · exact blocksLegal_setLatch (h.withQueue h.queue) .queueOverflow

/-- Every operation that the running main domain shares keeps the blocks legal. -/
theorem blocksLegal_keptByWork : KeptByWork BlocksLegal where
  sample _ := blocksLegal_samplePins
  finish _ := blocksLegal_endStep
  port _ _ h := h
  scanner _ _ h := h
  translator _ _ h := h
  repetition _ _ h := h
  latch _ l h := blocksLegal_setLatch h l
  faults _ fs h := h.withFault (captureInto_lost_le h.lost fs)
  offer _ r h := blocksLegal_offer h r
  mark _ h := h.withQueue (by simp)
  request _ _ hr h := blocksLegal_requestReset h hr
  alarm _ _ h := h.withTimekeeper h.calendar h.adjust
  battery _ _ h := h.withSupervisor h.requestLegal h.halt
  watchdog _ _ _ h := h
  stretch _ _ h := h.withSupervisor h.requestLegal h.halt
  complete s r out h := blocksLegal_setLatch (h.withMailbox
    (m := { s.mb with res := out, result := r, state := .done, running := none }) (by simp)) .commandDone
  cut _ h := h.withSupervisor h.requestLegal ⟨h.halt.1, fun hready => ⟨(h.halt.2 hready).1, fun _ => rfl⟩⟩

/-! ### Host accesses -/

/-- The highest eligible level stands above the top of the stack (R101). -/
theorem highestEligible_aboveTop {s : State} {l : Level} (h : highestEligible s = some l) : aboveTop s l = true := by
  have heligible := List.find?_some h
  simp only [eligible, Bool.and_eq_true] at heligible
  exact heligible.2

/-- In a strictly ordered stack, a level above the top is above every level (R103). -/
theorem lt_of_aboveTop {s : State} {l : Level} (hs : s.lv.stack.Pairwise (· > ·)) (h : aboveTop s l = true) :
    ∀ m ∈ s.lv.stack, l > m := by
  unfold aboveTop at h
  cases hstack : s.lv.stack with
  | nil => simp
  | cons top rest =>
    rw [hstack] at h hs
    have htop : top < l := by simpa using h
    intro m hm
    obtain rfl | hm := List.mem_cons.1 hm
    · exact htop
    · exact lt_trans ((List.pairwise_cons.1 hs).1 m hm) htop

theorem blocksLegal_hostAction {act : State → State} (ha : HostAction act) {s : State} (h : BlocksLegal s) :
    BlocksLegal (act s) := by
  cases ha with
  | nothing | lamps d | writeLatch d => exact h
  | command d =>
    unfold startCommand
    split
    · exact h.withFault (captureInto_lost_le h.lost _)
    · exact h.withMailbox (by simp)
  | argument i d => exact h.withMailbox h.mailbox
  | takeHead => exact h.withQueue (le_trans (by simp) h.queue)
  | stopScan => exact KeptByWork.ite _ (t := forgetKeys _) h h
  | startScan => exact KeptByWork.ite _ h h
  | switch d =>
    have hset (b : Bool) : BlocksLegal { s with lv := { s.lv with switch := b } } :=
      h.withLevels h.stack h.latches h.enables
    exact KeptByWork.ite _ (hset true) (KeptByWork.ite _ (hset false) h)
  | release =>
    unfold releaseLevel
    split
    · exact h.withFault (captureInto_lost_le h.lost _)
    · next top rest hstack =>
      have hrest : rest.Pairwise (· > ·) := (List.pairwise_cons.1 (hstack ▸ h.stack)).2
      exact h.withLevels hrest h.latches h.enables
  | enables d => exact h.withLevels h.stack h.latches (by simp [h.enables])
  | disables d => exact h.withLevels h.stack h.latches (by simp [h.enables])
  | requests d | withdraws d => exact h.withLevels h.stack h.latches h.enables
  | sources d =>
    have hcleared : BlocksLegal (clearLatches (committed d s) s) :=
      h.withLevels h.stack (latchesLegal_and _ h.latches) h.enables
    exact KeptByWork.ite _ (hcleared.withTimekeeper hcleared.calendar hcleared.adjust) hcleared
  | identify d =>
    unfold startIdentify
    split
    · exact h.withFault (captureInto_lost_le h.lost _)
    · next hidle =>
      have hstopped : s.id.cycle.isSome = false := by
        by_contra hcycle
        exact hidle (h.cycle.1 (by simpa [Option.isSome_iff_ne_none] using hcycle))
      split
      · exact BlocksLegal.withFault (s := postResult _ _ s)
          (h.withIdentify (by simp [hstopped]) (by simp)) (captureInto_lost_le h.lost _)
      · exact h.withIdentify (by simp) (by simp)
  | kick => exact KeptByWork.ite _ h h

theorem blocksLegal_readEffect {effect : State → State} (he : ReadEffect effect) {s : State} (h : BlocksLegal s) :
    BlocksLegal (effect s) := by
  cases he with
  | nothing | readLatch value => exact h
  | lost | snapshot => exact h.withQueue h.queue
  | accept =>
    unfold acceptLevel
    split
    · next l hl =>
      refine h.withLevels (List.pairwise_cons.2 ⟨?_, h.stack⟩) h.latches h.enables
      exact lt_of_aboveTop h.stack (highestEligible_aboveTop hl)
    · exact h

theorem exec_hostAccess_keeps {P : State → Prop} (hP : KeptByWork P)
    (hact : ∀ act, HostAction act → ∀ s, P s → P (act s)) (heffect : ∀ effect, ReadEffect effect → ∀ s, P s → P (effect s))
    (hunlock : ∀ s, P s → P (unlockFault s)) {c : Instr} {s t : State} (hc : kindOf c = .hostAccess) (hs : P s)
    (ht : exec c s = .next t) : P t := by
  obtain ⟨-, act, ha, hexec⟩ | ⟨-, value, effect, he, hexec⟩ := exec_hostAccess hc <;> rw [hexec] at ht <;> cases ht
  · exact hP.hostWrite (hact act ha _) hs
  · obtain he | ⟨rfl, -⟩ := he
    · exact hP.hostRead (heffect effect he _) hs
    · exact hP.hostRead (hunlock _) hs

/-! ### Mailbox commands -/

theorem blocksLegal_ownWork {c : Instr} {s t : State} (hw : OwnWork c s t) (h : BlocksLegal s) : BlocksLegal t := by
  cases hw with
  | nothing | entry | classRecord | layout | locks | memory | watchdog => exact h
  | request => exact blocksLegal_requestReset h (.inl rfl)
  | field id v _ hv =>
    refine h.withConfig fun k h1 h12 => ?_
    show fieldInRange k (fieldGet (fieldSet s.cfg id v) k) = true
    rw [fieldGet_fieldSet _ (fieldInRange_id hv)]
    split
    · next hk => rw [hk]; exact hv
    · exact h.config k h1 h12
  | chord chords => exact h.withConfig h.config
  | load => exact h.withConfig (loadedConfig_inRange _ s)
  | unhold => exact blocksLegal_setLatch (s := { s with tr := _ }) h .hold
  | insert r _ hroom =>
    refine h.withQueue ?_
    simp only [List.length_append, List.length_singleton]
    omega
  | flush => exact h.withQueue (by simp)
  | route => exact h.withLevels h.stack h.latches h.enables
  | time cut _ hrange =>
    obtain ⟨-, -, -, hmonth1, hmonth12, hday1, hday, hyear, hweekday, -, -⟩ := h.calendar
    obtain ⟨hhour, hminute, hsecond⟩ := hrange
    exact h.withTimekeeper ⟨by simp only; omega, by simp only; omega, by simp only; omega, hmonth1, hmonth12, hday1, hday,
      hyear, hweekday, by simp, by simp⟩ h.adjust
  | date cut _ hrange =>
    obtain ⟨hsecond, hminute, hhour, -, -, -, -, -, -, hsub, hadj⟩ := h.calendar
    obtain ⟨hyear, ⟨hmonth1, hmonth12⟩, ⟨hday1, hday⟩, hweekday⟩ := hrange
    exact h.withTimekeeper ⟨hsecond, hminute, hhour, hmonth1, hmonth12, hday1, hday, by simp only; omega,
      by simp only; omega, hsub, hadj⟩ h.adjust
  | alarm | disarm => exact h.withTimekeeper h.calendar h.adjust
  | adjust cut b _ hb => exact h.withTimekeeper h.calendar hb

/-! ### Identify engine -/

/-- A selection step finds the chain sequencer stopped (R114). -/
theorem blocksLegal_selectionBody {s : State} (h : BlocksLegal s) (hstate : s.id.state = .run) (hcycle : s.id.cycle = none) :
    BlocksLegal (selectionBody s) := by
  have hpost {u : State} (hu : BlocksLegal u) (hid : u.id = s.id) (a b : Byte) : BlocksLegal (postResult a b u) :=
    hu.withIdentify (by simp [hid, hcycle]) (by simp)
  have hfault {u : State} (hu : BlocksLegal u) (f : FaultReport) : BlocksLegal (capture f u) :=
    hu.withFault (captureInto_lost_le hu.lost _)
  have hstart (c : ChainClass) : BlocksLegal (startCycle c s) :=
    KeptByWork.ite _ (hfault (hpost h rfl _ _) _) (h.withIdentify (fun _ => hstate) h.cycle.2)
  unfold selectionBody
  simp only
  split
  · exact KeptByWork.ite _ (hpost h rfl _ _) (hfault (hpost h rfl _ _) _)
  · refine KeptByWork.ite _ (hstart .a) (KeptByWork.ite _ (hstart .b) ?_)
    have hcleared (m : Half) : BlocksLegal (clearLatches m s) :=
      h.withLevels h.stack (latchesLegal_and _ h.latches) h.enables
    have hwoken (m : Half) (c : Prop) [Decidable c] :
        BlocksLegal (if c then clearWake (clearLatches m s) else clearLatches m s) :=
      KeptByWork.ite c ((hcleared m).withTimekeeper h.calendar h.adjust) (hcleared m)
    refine hpost (hwoken _ _) ?_ _ _
    split <;> rfl

theorem blocksLegal_completionBody {s : State} (h : BlocksLegal s) (c : ChainCycle) (o : ChainOutcome) :
    BlocksLegal (completionBody c o s) := by
  have hposted (a b : Byte) : BlocksLegal (postResult a b { s with id := { s.id with cycle := none } }) :=
    h.withIdentify (by simp) (by simp)
  exact (hposted _ _).withFault (captureInto_lost_le h.lost _)

theorem blocksLegal_chainEvent {phase : ChainPhase} {act : ChainCycle → State → State} {s : State} (h : BlocksLegal s)
    (hact : ∀ c, s.id.state = .run → BlocksLegal (act c s)) : BlocksLegal (chainEvent phase act s) := by
  obtain hidle | ⟨c, ⟨-, hstate, -, -⟩, hevent⟩ := chainEvent_cases phase act s
  · rw [hidle]; exact h
  · rw [hevent]; exact hact c hstate

theorem blocksLegal_identify {c : Instr} {s t : State} (hc : kindOf c = .identify) (h : BlocksLegal s)
    (ht : exec c s = .next t) : BlocksLegal t := by
  have hmove (cycle : ChainCycle) (hstate : s.id.state = .run) (e : Env) (idg chs chc : Bool) :
      BlocksLegal { s with env := e, id := { s.id with cycle := some cycle, idg := idg, chs := chs, chc := chc } } :=
    BlocksLegal.withIdentify (s := { s with env := e }) h (fun _ => hstate) h.cycle.2
  have hstart := blocksLegal_samplePins h
  cases c
  case selectionStep =>
    obtain rfl | ⟨⟨-, hstate, hcycle⟩, rfl⟩ := exec_selectionStep ht
    · exact h
    · exact blocksLegal_endStep (blocksLegal_selectionBody hstart (by simpa using hstate) (by simpa using hcycle))
  case presence => cases ht; exact blocksLegal_chainEvent h fun c hr => hmove _ hr _ _ _ _
  case presenceReleased => cases ht; exact blocksLegal_chainEvent h fun c hr => hmove _ hr _ _ _ _
  case answerWindowTimeout => cases ht; exact blocksLegal_chainEvent h fun c hr => hmove _ hr _ _ _ _
  case presenceStuckTimeout => cases ht; exact blocksLegal_chainEvent h fun c hr => hmove _ hr _ _ _ _
  case identityShiftEnd bits => cases ht; exact blocksLegal_chainEvent h fun c hr => hmove _ hr _ _ _ _
  case chainCycleCompletion =>
    obtain rfl | ⟨c, o, -, rfl⟩ := exec_chainCycleCompletion ht
    · exact h
    · exact blocksLegal_endStep (blocksLegal_completionBody hstart c o)
  all_goals cases hc

/-! ### Oscillator halt -/

/-- The detector enters HALTED; a detection is then ready outside part 1 of a full reset only. -/
theorem blocksLegal_enterHalted {s : State} (h : BlocksLegal s) (hpower : s.sup.power = .mainOn) :
    BlocksLegal (enterHalted s) := by
  unfold enterHalted
  split
  · exact BlocksLegal.withSupervisor (s := { s with scan := _ }) h h.requestLegal
      ⟨by simp, fun hready => h.halt.2 hready⟩
  · next hphase =>
    exact BlocksLegal.withSupervisor (s := { s with scan := _ }) h h.requestLegal
      ⟨by simp, fun _ => ⟨hpower, fun hheld => absurd hheld hphase⟩⟩

theorem blocksLegal_detectHalt {s : State} (h : BlocksLegal s) (hpower : s.sup.power = .mainOn) :
    BlocksLegal (detectHalt s) :=
  KeptByWork.ite _ h (blocksLegal_enterHalted h hpower)

theorem blocksLegal_haltBody {s : State} (h : BlocksLegal s) : BlocksLegal (haltBody s) := by
  have hcleared : BlocksLegal (clearTimeFlags { s with sup := { s.sup with haltReady := false } }) :=
    (h.withSupervisor (u := { s.sup with haltReady := false }) h.requestLegal ⟨h.halt.1, by simp⟩).withTimekeeper
      h.calendar h.adjust
  exact hcleared.withFault (captureInto_lost_le h.lost _)

theorem blocksLegal_halt {c : Instr} {s t : State} (hc : kindOf c = .halt) (h : BlocksLegal s)
    (ht : exec c s = .next t) : BlocksLegal t := by
  cases c
  case haltDetection =>
    obtain rfl | ⟨hpower, -, rfl | ⟨-, -, rfl⟩⟩ := exec_haltDetection ht
    · exact h
    · exact blocksLegal_detectHalt h hpower
    · exact blocksLegal_endStep (blocksLegal_haltBody (blocksLegal_samplePins (blocksLegal_detectHalt h hpower)))
  case oscillatorResume =>
    cases ht
    exact KeptByWork.ite _ (h.withSupervisor h.requestLegal ⟨by simp, h.halt.2⟩) h
  all_goals cases hc

/-! ### Resets and power states -/

/-- Part 1 of a reset leaves every block legal, whatever the supervisor then becomes (R20, R71, R89, R112, R127). -/
theorem blocksLegal_reset {s : State} (h : BlocksLegal s) (full : Bool) {u : Supervisor}
    (hrequest : RequestLegal { s with sup := u }) (hhalt : HaltLegal { s with sup := u }) :
    BlocksLegal { mainDomainReset full s with sup := u } := by
  have hlost : (if full then ({} : FaultRecord) else s.fault).lost ≤ 15 := by
    split
    · simp
    · exact h.lost
  exact ⟨List.Pairwise.nil, ⟨by simp [mainDomainReset], by simp [mainDomainReset]⟩, Nat.zero_le _, by simp [MailboxLegal, mainDomainReset], hlost,
    ⟨by simp [mainDomainReset], by simp [mainDomainReset]⟩, h.calendar, h.config, h.adjust, hrequest, hhalt⟩

theorem blocksLegal_enterPartOne {s : State} (h : BlocksLegal s) (r : Option ResetReason) :
    BlocksLegal (enterPartOne r s) :=
  blocksLegal_reset h true (.inl rfl) ⟨by simp [mainDomainReset], by simp [mainDomainReset]⟩

theorem blocksLegal_pinReset {s : State} (h : BlocksLegal s) : BlocksLegal (pinReset s) :=
  KeptByWork.ite _ (h.withSupervisor h.requestLegal h.halt) (blocksLegal_enterPartOne h _)

theorem blocksLegal_enterBrownOut {s : State} (h : BlocksLegal s) : BlocksLegal (enterBrownOut s) :=
  blocksLegal_reset h false (.inl rfl) ⟨h.halt.1, by simp⟩

theorem blocksLegal_enterMainOn {s : State} (h : BlocksLegal s) : BlocksLegal (enterMainOn s) :=
  blocksLegal_reset h true (.inl rfl) ⟨by simp [enterPartOne, mainDomainReset], by simp [enterPartOne, mainDomainReset]⟩

/-- While not MAIN-ON no halt detection is ready, so that the power state may change. -/
theorem haltReady_of_not_mainOn {s : State} (h : BlocksLegal s) (hpower : s.sup.power ≠ .mainOn) :
    s.sup.haltReady = false := by
  by_contra hready
  exact hpower (h.halt.2 (by simpa using hready)).1

theorem blocksLegal_power {s : State} (h : BlocksLegal s) (hpower : s.sup.power ≠ .mainOn) (p : PowerState)
    (phase : ResetPhase) (r : Option ResetReason) (lost cold : Bool) : BlocksLegal { s with sup := { s.sup with
      power := p, phase := phase, reason := r, vddLost := lost, coldMarker := cold } } :=
  h.withSupervisor h.requestLegal ⟨h.halt.1, by simp [haltReady_of_not_mainOn h hpower]⟩

/-- The values of R157 are in range. -/
theorem blocksLegal_startBattery {s : State} (h : BlocksLegal s) : BlocksLegal (startBattery s) := by
  unfold startBattery
  generalize arbitraryMemory s.starts = m
  have hmarked : BlocksLegal { s with mem := m, starts := s.starts + 1, sup := { s.sup with coldMarker := true } } :=
    h.withSupervisor (u := { s.sup with coldMarker := true }) h.requestLegal h.halt
  exact hmarked.withTimekeeper (t := {}) (by simp [CalendarInRange, monthLength]) rfl

theorem blocksLegal_transferWake {s : State} (h : BlocksLegal s) : BlocksLegal (transferWake s) :=
  KeptByWork.ite _ (blocksLegal_setLatch h .alarm) h

theorem blocksLegal_enterStretch {s : State} (h : BlocksLegal s) (r : ResetReason)
    (hpower : s.sup.haltReady = true → s.sup.power = .mainOn) : BlocksLegal (enterStretch r s) :=
  h.withSupervisor (.inl rfl) ⟨h.halt.1, fun hready => ⟨hpower hready, by simp⟩⟩

theorem blocksLegal_cutSequence {s : State} (h : BlocksLegal s) (r : ResetReason) : BlocksLegal (cutSequence r s) :=
  h.withSupervisor (.inl rfl) ⟨h.halt.1, fun hready => ⟨(h.halt.2 hready).1, fun _ => rfl⟩⟩

theorem blocksLegal_clearTimeFlags {s : State} (h : BlocksLegal s) : BlocksLegal (clearTimeFlags s) :=
  h.withTimekeeper h.calendar h.adjust

theorem blocksLegal_fullResetParts {s : State} (h : BlocksLegal s) (r : ResetReason) : BlocksLegal (fullResetParts r s) := by
  have hmemory (m : Memory) (b d : Bool) : BlocksLegal { s with
      mem := m, sup := { s.sup with batLow := b, defaults := d, coldMarker := false } } :=
    BlocksLegal.withSupervisor (s := { s with mem := m }) h h.requestLegal h.halt
  have hloaded {u : State} (hu : BlocksLegal u) : BlocksLegal (transferWake (restoreLayout (loadConfig u))) :=
    blocksLegal_transferWake (s := restoreLayout (loadConfig u)) (hu.withConfig (loadedConfig_inRange u.mem u))
  have hflags {u : State} (hu : BlocksLegal u) : BlocksLegal (if u.sup.oscHalt.isSome then clearTimeFlags u else u) :=
    KeptByWork.ite _ (blocksLegal_clearTimeFlags hu) hu
  have hend {u : State} (hu : BlocksLegal u) : BlocksLegal (captureAll (fullResetFaults r s) (enterStretch r u)) :=
    BlocksLegal.withFault (s := enterStretch r u) (blocksLegal_enterStretch hu r fun hready => (hu.halt.2 hready).1)
      (captureInto_lost_le hu.lost _)
  exact hend (hflags (hloaded (hmemory _ _ _)))

theorem blocksLegal_fullResetCut {s : State} (h : BlocksLegal s) (k : Nat) (r : ResetReason) :
    BlocksLegal (fullResetCut k r s) := by
  have hmemory (m : Memory) (b : Bool) : BlocksLegal { s with mem := m, sup := { s.sup with coldMarker := b } } :=
    BlocksLegal.withSupervisor (s := { s with mem := m }) h h.requestLegal h.halt
  exact blocksLegal_cutSequence (KeptByWork.ite _ (blocksLegal_clearTimeFlags (hmemory _ _)) (hmemory _ _)) r

/-- A host-side reset keeps a ready halt detection; MAIN-ON stays, and a cut leaves its mark (R154, R178). -/
theorem blocksLegal_hostSideBody {s : State} (h : BlocksLegal s) (hphase : s.sup.phase ≠ .held) (cut : Option Nat) :
    BlocksLegal (hostSideBody cut s) := by
  have hreset : BlocksLegal (mainDomainReset false s) :=
    blocksLegal_reset h false (.inl rfl) ⟨h.halt.1, fun hready => ⟨(h.halt.2 hready).1, fun hheld => absurd hheld hphase⟩⟩
  have hpower (hready : (mainDomainReset false s).sup.haltReady = true) := (hreset.halt.2 hready).1
  unfold hostSideBody
  simp only
  split
  · have hloaded (m : Memory) : BlocksLegal { loadConfig (mainDomainReset false s) with mem := m } :=
      hreset.withConfig (loadedConfig_inRange _ _)
    refine blocksLegal_enterStretch (blocksLegal_transferWake (hloaded _)) _ ?_
    unfold transferWake
    split <;> exact hpower
  · exact blocksLegal_cutSequence (s := { mainDomainReset false s with mem := _ }) hreset _

theorem blocksLegal_releaseHost {s : State} (h : BlocksLegal s) : BlocksLegal (releaseHost s) := by
  have hrun : BlocksLegal { s with sup := { s.sup with phase := .run, stretchTicks := 0, stretchClks := 0 } } :=
    h.withSupervisor h.requestLegal ⟨h.halt.1, fun hready => ⟨(h.halt.2 hready).1, by simp⟩⟩
  exact hrun

/-- The supervisory steps. -/
theorem blocksLegal_supervisory {c : Instr} {s t : State} (h : BlocksLegal s) (ht : exec c s = .next t)
    (hc : kindOf c = .power ∨ kindOf c = .fullReset ∨ kindOf c = .hostSideReset ∨ kindOf c = .sequence ∨
      kindOf c = .release) : BlocksLegal t := by
  have hstart := blocksLegal_samplePins h
  cases c
  case nreset =>
    obtain rfl | ⟨-, rfl⟩ := takes_or_stays (body := pinReset) ht
    · exact h
    · exact blocksLegal_endStep (blocksLegal_pinReset hstart)
  case softFullReset =>
    obtain rfl | ⟨-, rfl⟩ := takes_or_stays (body := fun s => enterPartOne (inProgress s) s) ht
    · exact h
    · exact blocksLegal_endStep (blocksLegal_enterPartOne hstart _)
  case brownOutEntry =>
    obtain rfl | ⟨-, rfl⟩ := takes_or_stays (body := enterBrownOut) ht
    · exact h
    · exact blocksLegal_endStep (blocksLegal_enterBrownOut hstart)
  case returnToMainOn =>
    obtain rfl | ⟨-, rfl⟩ := takes_or_stays (body := enterMainOn) ht
    · exact h
    · exact blocksLegal_endStep (blocksLegal_enterMainOn hstart)
  case vddLoss =>
    obtain rfl | ⟨hpower, rfl⟩ := takes_or_stays (body := loseVdd) ht
    · exact h
    · exact blocksLegal_endStep (blocksLegal_power hstart (by simp [hpower]) _ _ _ _ _)
  case vddBelowBrownOutLevel =>
    obtain rfl | ⟨hpower, rfl⟩ := takes_or_stays (body := enterFromBelow) ht
    · exact h
    · have hnot : s.sup.power ≠ .mainOn := by obtain hp | hp := hpower <;> simp [hp]
      refine blocksLegal_endStep ?_
      unfold enterFromBelow
      simp only
      split
      · exact blocksLegal_power (blocksLegal_startBattery hstart) (by simpa [startBattery] using hnot) _ _ _ _ _
      · exact blocksLegal_power hstart (by simpa using hnot) _ _ _ _ _
  case vbatLoss =>
    cases ht
    split
    · next hpower =>
      exact blocksLegal_endStep (blocksLegal_power (s := setVbat false (samplePins s)) hstart (by simp [setVbat, hpower])
        _ _ _ _ _)
    · exact h
  case vbatPresent =>
    cases ht
    split
    · next hpower =>
      exact blocksLegal_endStep (blocksLegal_power (blocksLegal_startBattery (s := setVbat true (samplePins s)) hstart)
        (by simp [startBattery, setVbat, hpower]) _ _ _ _ _)
    · exact h
  case fullResetSequence cut =>
    obtain rfl | ⟨-, rfl⟩ := takes_or_stays (body := fullResetBody cut) ht
    · exact h
    · refine blocksLegal_endStep ?_
      cases cut with
      | none => exact blocksLegal_fullResetParts hstart _
      | some k => exact blocksLegal_fullResetCut hstart k _
  case hostSideReset cut =>
    obtain rfl | ⟨hready, rfl⟩ := takes_or_stays (body := hostSideBody cut) ht
    · exact h
    · have hphase : s.sup.phase ≠ .held := by
        simp only [hostSideReady, Bool.and_eq_true, bne_iff_ne] at hready
        exact hready.1.1.2
      exact blocksLegal_endStep (blocksLegal_hostSideBody hstart (by simpa using hphase) cut)
  case nhrstRelease =>
    obtain rfl | ⟨-, rfl⟩ := takes_or_stays (body := releaseHost) ht
    · exact h
    · exact blocksLegal_endStep (blocksLegal_releaseHost hstart)
  all_goals simp [kindOf] at hc

/-! ### Every step -/

theorem blocksLegal_exec {c : Instr} {s t : State} (h : BlocksLegal s) (ht : exec c s = .next t) : BlocksLegal t := by
  have hwork := blocksLegal_keptByWork
  cases hc : kindOf c with
  | hostAccess =>
    exact exec_hostAccess_keeps hwork (fun act ha s => blocksLegal_hostAction ha) (fun e he s => blocksLegal_readEffect he)
      (fun s hs => hs.withFault hs.lost) hc h ht
  | command => exact hwork.command hc (fun u v => blocksLegal_ownWork) h ht
  | identify => exact blocksLegal_identify hc h ht
  | tick =>
    have hclock (u : State) (hu : BlocksLegal u) : BlocksLegal { u with tk := advance u.tk } :=
      hu.withTimekeeper (advance_inRange hu.calendar) hu.adjust
    obtain hidle | htick := exec_tick hc s
    · rw [hidle] at ht; cases ht; exact h
    · rw [htick] at ht
      cases ht
      exact hwork.tickStep hclock (fun u _ hu => hu.withTimekeeper hu.calendar hu.adjust) h
  | scanPass =>
    obtain ⟨seen, rfl⟩ := scanPass_of_kind hc
    obtain rfl | ⟨-, rfl⟩ := exec_scanPass ht
    · exact h
    · exact blocksLegal_endStep (hwork.scanPassBody seen _ (blocksLegal_samplePins h))
  | halt => exact blocksLegal_halt hc h ht
  | power | fullReset | hostSideReset | sequence | release => exact blocksLegal_supervisory h ht (by simp [hc])

/-! ### A CLK period -/

/-- The halt detector's count stays below 8192, where it enters HALTED (R153). -/
theorem blocksLegal_detectPeriod {s : State} (h : BlocksLegal s) (hpower : s.sup.power = .mainOn) :
    BlocksLegal (detectPeriod s) := by
  unfold detectPeriod
  simp only
  split
  · -- entering HALTED overwrites the count that has reached 8192
    have hhalted : BlocksLegal { s with sup := { s.sup with
        detector := .halted, oscSeen := s.sup.oscSeen || s.env.pins.oscCycle } } :=
      h.withSupervisor h.requestLegal ⟨by simp, h.halt.2⟩
    exact (blocksLegal_enterHalted hhalted hpower :)
  · next hnot =>
    refine h.withSupervisor h.requestLegal ⟨fun n hn => ?_, h.halt.2⟩
    simp only at hn
    simpa [hn, countReached] using hnot

theorem blocksLegal_chainPeriod {s : State} (h : BlocksLegal s) : BlocksLegal (chainPeriod s) := by
  unfold chainPeriod
  split
  · exact h
  · next c hc =>
    obtain ⟨-, hstate, -⟩ := runningCycle_eq_some hc
    exact h.withIdentify (fun _ => hstate) h.cycle.2

theorem blocksLegal_mainPeriod {s : State} (h : BlocksLegal s) : BlocksLegal (mainPeriod s) := by
  unfold mainPeriod
  split
  · next hpower =>
    have hdetected := blocksLegal_detectPeriod h hpower
    have hstretch {u : State} (hu : BlocksLegal u) : BlocksLegal (stretchPeriod u) :=
      KeptByWork.ite _ (hu.withSupervisor hu.requestLegal hu.halt) hu
    exact blocksLegal_chainPeriod (hstretch hdetected)
  · exact h

theorem blocksLegal_oscillatorPeriod {s : State} (h : BlocksLegal s) : BlocksLegal (oscillatorPeriod s) := by
  have hcounted : BlocksLegal { s with tk := { s.tk with prescaler := s.tk.prescaler + 1 } } :=
    h.withTimekeeper h.calendar h.adjust
  have htimer {u : State} (hu : BlocksLegal u) : BlocksLegal (if scanRuns u then scanTimerCycle u else u) :=
    KeptByWork.ite _ (KeptByWork.ite _ hu hu) hu
  exact htimer (KeptByWork.ite _ h hcounted)

theorem blocksLegal_clkPeriod {s : State} (h : BlocksLegal s) : BlocksLegal (clkPeriod s) := by
  have hmain := blocksLegal_mainPeriod (blocksLegal_samplePins h)
  exact KeptByWork.ite _ (blocksLegal_oscillatorPeriod hmain) hmain

/-- Settles O56: each kind of step keeps the blocks legal, and so does a CLK period. -/
theorem everyStepKeepsTheBlocksLegal : Obligations.EveryStepKeepsTheBlocksLegal :=
  keptByEveryStep (fun _ _ _ => blocksLegal_exec) (fun _ => blocksLegal_clkPeriod) (fun _ _ h => h)

end Sys2Proof.Machine
end

section
-- One lemma at a time: elaborated side by side they ask for more threads than the memory limit of the check leaves.
set_option Elab.async false
/-!
PROOF. Steps and the reset state at large, and the host port of Chapter 1: the closed port, plain writes and reads, and the
write to MBCMD.
-/

namespace Sys2Proof.Machine

/-! ### Steps and the reset state -/

/-- Settles O1: `step` on a non-empty queue is `exec` by definition. -/
theorem stepRunsTheFrontCommand : Obligations.StepRunsTheFrontCommand := fun _ _ _ => rfl

theorem exec_total (c : Instr) (s : State) : ∃ t, exec c s = .next t := by
  cases c <;> exact ⟨_, rfl⟩

/-- Settles O2: every arm of `exec` answers a next state. -/
theorem everyStepAnswersANextState : Obligations.EveryStepAnswersANextState := by
  refine ⟨exec_total, fun s => ?_⟩
  unfold step
  split
  · exact exec_total _ _
  · split
    · exact exec_total _ _
    · exact ⟨_, rfl⟩

/-- Settles O5, by evaluating the reset state. -/
theorem resetHoldsTheRegisterValues : Obligations.ResetHoldsTheRegisterValues := by
  unfold Obligations.ResetHoldsTheRegisterValues BlocksReset
  decide

theorem blocksLegal_resetState : BlocksLegal State.reset := by
  refine ⟨List.Pairwise.nil, ⟨by decide, by decide⟩, ?_, ?_, ?_, ?_, ?_, ?_, rfl, .inl rfl, ?_, fun h => by cases h⟩
  · exact Nat.zero_le _
  · exact ⟨fun h => (by cases h), fun h => (by cases h)⟩
  · exact Nat.zero_le _
  · exact ⟨fun h => (by cases h), fun h => (by cases h)⟩
  · unfold CalendarInRange; decide
  · intro id h1 h12
    interval_cases id <;> decide
  · intro n hn
    cases hn
    decide

/-- Settles O6, by evaluating the reset state. -/
theorem resetHasTheInvariants : Obligations.ResetHasTheInvariants := by
  refine ⟨blocksLegal_resetState, ⟨reset_memory_wf, rfl, rfl, rfl⟩, ?_, fun _ h => (by cases h), ?_⟩
  · unfold RolloverBounded; decide
  · unfold InterruptFollows; decide

/-! ### The closed port (R1) -/

/-- A host access in the stretch of nHRST. -/
theorem exec_hostAccess_closed {c : Instr} {s : State} (hc : kindOf c = .hostAccess) (h : PortClosed s) :
    (¬ ReadsPort c ∧ exec c s = .next (endStep (samplePins s))) ∨
    (ReadsPort c ∧ exec c s = .next (endStep (driveBus 0 (samplePins s)))) := by
  obtain ⟨hwrites, act, -, hexec⟩ | ⟨hreads, value, effect, -, hexec⟩ := exec_hostAccess hc
  · exact .inl ⟨hwrites, by rw [hexec, hostWrite_closed h]⟩
  · exact .inr ⟨hreads, by rw [hexec, hostRead_closed h]⟩

/-- A host access while the main domain is held in reset. -/
theorem exec_hostAccess_held {c : Instr} {s : State} (hc : kindOf c = .hostAccess)
    (h : (s.sup.power = .mainOn ∧ s.sup.phase = .held) ∨ s.sup.power = .brownOut) :
    (¬ ReadsPort c ∧ exec c s = .next s) ∨ (ReadsPort c ∧ exec c s = .next (driveBus 0 s)) := by
  have hheld : mainRunning s = false := by
    obtain ⟨-, hphase⟩ | hpower := h
    · simp [mainRunning, hphase]
    · simp [mainRunning, hpower]
  have hpowered : (s.sup.power == .mainOn || s.sup.power == .brownOut) = true := by
    obtain ⟨hpower, -⟩ | hpower := h <;> simp [hpower]
  obtain ⟨hwrites, act, -, hexec⟩ | ⟨hreads, value, effect, -, hexec⟩ := exec_hostAccess hc
  · exact .inl ⟨hwrites, by rw [hexec]; simp [hostWrite, portOpen, hheld]⟩
  · exact .inr ⟨hreads, by rw [hexec]; simp [hostRead, portOpen, hheld, hpowered]⟩

/-- Settles O7: a closed port passes every access without its action, a read with the byte 0x00. -/
theorem closedPortIgnoresEveryAccess : Obligations.ClosedPortIgnoresEveryAccess := by
  constructor
  · intro c s h hc
    obtain ⟨hwrites, hexec⟩ | ⟨hreads, hexec⟩ := exec_hostAccess_closed hc h
    · refine ⟨_, hexec, quietStep_of_frame h.1 (Frame.refl _ _), ?_⟩
      rw [ReadsPort] at hwrites
      simp [if_neg hwrites]
    · refine ⟨_, hexec, quietStep_of_frame h.1 (driveBus_frame 0 _), ?_⟩
      rw [ReadsPort] at hreads
      simp [if_pos hreads, driveBus]
  · intro c s h hc
    obtain ⟨hwrites, hexec⟩ | ⟨hreads, hexec⟩ := exec_hostAccess_held hc h
    · rw [ReadsPort] at hwrites
      rw [hexec, if_neg hwrites]
    · rw [ReadsPort] at hreads
      rw [hexec, if_pos hreads]
      rfl

/-! ### The write to MBCMD (R10, R11) -/

theorem startCommand_of_busy {s : State} (d : Byte) (h : s.mb.state = .busy) :
    startCommand d s = capture ⟨.busyViolation, .mailbox, d, runningCode s⟩ s := if_pos h

theorem runs_endStep {s u : State} (h : Runs s) (hu : u.sup = s.sup) : Runs (endStep u) := by
  simpa [Runs, hu] using h

/-- Settles O10: the write starts a command, or captures the violation alone. -/
theorem commandWriteStartsOrIsRejected : Obligations.CommandWriteStartsOrIsRejected := by
  intro d s h
  rw [exec_mbcmdWrite]
  refine ⟨fun hfree => hostWrite_next h ?_, fun code hbusy hcode => hostWrite_next h ?_⟩
  · have hstart := startCommand_of_not_busy (d := d) (s := samplePins s) (by simpa using hfree)
    rw [hstart]
    refine ⟨quietStep_of_frame h.1 (setMailbox_frame _ _), by simp, runs_endStep h.1 (by simp), by simp, by simp⟩
  · rw [startCommand_of_busy d (by simpa using hbusy)]
    exact ⟨quietStep_of_frame h.1 (capture_frame _ _), by simp [capture, captureAll, runningCode, hcode]⟩

end Sys2Proof.Machine
end

section
-- One lemma at a time: elaborated side by side they ask for more threads than the memory limit of the check leaves.
set_option Elab.async false
/-!
PROOF. The register window of Chapter 1: what a write and a read with no row of their own do.
-/

namespace Sys2Proof.Machine

/-! ### Plain writes (R1, R2, R14, R46) -/

/-- A write with no row of its own stores an argument byte at 0x08 to 0x0F and does nothing elsewhere. -/
theorem writeAction_eq_of_no_row {a : Addr} {d : Byte} (h : writeHasRow a d = false) :
    writeAction a d = if 8 ≤ a.toNat ∧ a.toNat < 16 then writeArg (a.toNat - 8) d else id := by
  have ha : a = BitVec.ofNat 6 a.toNat := by simp
  unfold writeAction
  split
  -- ARG0 to ARG7, then SCANC, then the addresses that no write reaches; every other address has a row
  case h_3 harg | h_4 harg | h_5 harg | h_6 harg | h_7 harg | h_8 harg | h_9 harg | h_10 harg => simp [harg]
  case h_12 scanc =>
    rw [ha, scanc] at h
    simp only [writeHasRow, Bool.or_eq_false_iff, Bool.and_eq_false_imp, beq_iff_eq, beq_eq_false_iff_ne] at h
    simp [writeScanc, h.2 trivial, scanc]
  case h_27 =>
    simp only [imp_false] at *
    rw [if_neg (by omega)]
  all_goals
    next row =>
      rw [ha, row] at h
      simp [writeHasRow] at h

theorem writeArg_args (k : Nat) (d : Byte) (s : State) (i : Fin 8) :
    (writeArg k d s).mb.args[i] = if k = i.val then d else s.mb.args[i] := by
  simp only [writeArg, Fin.getElem_fin]
  rw [Vector.getElem_setIfInBounds]

/-- REGISTER_WRITE with no row of its own: at most one argument byte changes. -/
theorem registerWrite_plain {a : Addr} {d : Byte} {s : State} (h : PortOpen s)
    (hwf : (Instr.registerWrite a d).wellFormed = true) :
    ∃ t, exec (.registerWrite a d) s = .next t ∧ QuietStep [.mailbox] s t ∧
      t.mb = { s.mb with args := t.mb.args } ∧
      ∀ i : Fin 8, t.mb.args[i] = if a.toNat = 8 + i.val then d else s.mb.args[i] := by
  have hrow : writeHasRow a d = false := by simpa [Instr.wellFormed] using hwf
  rw [exec_registerWrite]
  refine hostWrite_next h ?_
  by_cases harg : 8 ≤ a.toNat ∧ a.toNat < 16
  · have hact : writeAction a d = writeArg (a.toNat - 8) d := by rw [writeAction_eq_of_no_row hrow, if_pos harg]
    rw [hact]
    refine ⟨quietStep_of_frame h.1 (writeArg_frame _ _ _), by simp [writeArg], fun i => ?_⟩
    simp only [endStep_mb, writeArg_args, samplePins_mb]
    congr 1
    simp only [eq_iff_iff]
    omega
  · have hact : writeAction a d = id := by rw [writeAction_eq_of_no_row hrow, if_neg harg]
    rw [hact]
    refine ⟨quietStep_of_frame h.1 (Frame.refl _ _), by simp, fun i => ?_⟩
    rw [if_neg (by omega)]
    simp

theorem writeAction_of_low {a : Addr} {d : Byte} (h : isWriteLow a = true) : writeAction a d = fillWriteLatch d := by
  simp only [isWriteLow, List.contains_eq_mem, decide_eq_true_eq, List.mem_cons, List.not_mem_nil, or_false] at h
  rcases h with rfl | rfl | rfl | rfl | rfl <;> rfl

/-- The lamps while the main domain is not held in reset: the register in HOST (R46). -/
theorem lampOutputs_host {t : State} (hpower : t.sup.power = .mainOn) (hphase : t.sup.phase ≠ .held)
    (hhost : t.cfg.lampMode = 1) : lampOutputs t = t.tr.lampsReg := by
  simp [lampOutputs, hpower, hphase, hhost]

/-- Settles O8: each write's action is one store, and the lamps read what it left. -/
theorem plainWritesStoreTheirByte : Obligations.PlainWritesStoreTheirByte := by
  refine ⟨fun a d s => registerWrite_plain, fun a d s h hwf => ?_, fun d s h => ?_⟩
  · have hexec : exec (.lowByteWrite a d) s = .next (hostWrite (writeAction a d) s) := rfl
    rw [hexec, writeAction_of_low hwf]
    exact hostWrite_next h ⟨quietStep_of_frame h.1 (fillWriteLatch_frame d _), by simp [fillWriteLatch]⟩
  · have hexec : exec (.lampsWrite d) s = .next (hostWrite (writeLamps d) s) := rfl
    rw [hexec]
    refine hostWrite_next h ⟨quietStep_of_frame h.1 (writeLamps_frame d _), fun i hi => ?_, fun hhost => ?_, fun hauto => ?_⟩
    · simp [writeLamps, hi]
    · exact lampOutputs_host (by simpa [writeLamps] using h.1.1) (by simpa [writeLamps] using h.1.2.1)
        (by simpa [writeLamps] using hhost)
    · have hlamps := lampOutputs_auto (t := endStep (writeLamps d (samplePins s))) (by simpa [writeLamps] using h.1.1)
        (by simpa [writeLamps] using h.1.2.1) (by simpa [writeLamps] using hauto)
      simpa [writeLamps] using hlamps

/-! ### Plain reads (R1, R3, R8) -/

/-- A read reads no input level. -/
theorem readValue_samplePins (a : Addr) (s : State) : readValue a (samplePins s) = readValue a s := by
  rw [samplePins_eq]
  rfl

theorem readEffect_of_no_row {a : Addr} (h : readHasRow a = false) (h2A : a ≠ 0x2A#6) (h30 : a ≠ 0x30#6) (h32 : a ≠ 0x32#6) :
    readEffect a = id := by
  have ha : a = BitVec.ofNat 6 a.toNat := by simp
  unfold readEffect
  split
  case h_4 row => exact absurd (ha.trans (by rw [row])) h2A
  case h_5 row => exact absurd (ha.trans (by rw [row])) h30
  case h_6 row => exact absurd (ha.trans (by rw [row])) h32
  case h_8 => rfl
  all_goals
    next row =>
      rw [ha, row] at h
      simp [readHasRow] at h

/-- One bit of a flag placed in a byte. -/
theorem getLsbD_bitAt (n : Nat) (b : Bool) (i : Nat) (hi : i < 8) : (bitAt n b).getLsbD i = (b && decide (i = n)) := by
  cases b
  · simp [bitAt]
  · rw [Bool.eq_iff_iff]
    simp only [bitAt, if_true, BitVec.getLsbD_shiftLeft, BitVec.getLsbD_one, hi, decide_true, Bool.true_and,
      Bool.and_eq_true, Bool.not_eq_true', decide_eq_false_iff_not, decide_eq_true_eq]
    omega

/-- GSTAT's eight flags. -/
theorem statusByte_bits (s : State) :
    (statusByte s).getLsbD 7 = s.lv.nint ∧ (statusByte s).getLsbD 6 = s.sup.pwrLow ∧ (statusByte s).getLsbD 5 = s.tr.held ∧
    (statusByte s).getLsbD 4 = s.sup.batLow ∧ (statusByte s).getLsbD 3 = clockValid s ∧
    (statusByte s).getLsbD 2 = s.sup.defaults ∧ (statusByte s).getLsbD 1 = (s.id.state == .run) ∧
    (statusByte s).getLsbD 0 = (s.mb.state == .busy) := by
  simp only [statusByte, BitVec.getLsbD_or]
  simp (discharger := decide) only [getLsbD_bitAt]
  simp

/-- MODS in TQHINF as a sum of its flags' powers of two (R78). -/
theorem modsBits_or_source (m : Mods) (r : RecordSource) : modsBits (some m) ||| recordSourceCode r =
    (if m.num then 0x80 else 0) + (if m.caps then 0x40 else 0) + (if m.alt then 0x20 else 0) +
      (if m.ctrl then 0x10 else 0) + (if m.shift then 0x08 else 0) + recordSourceCode r := by
  obtain ⟨shift, ctrl, alt, caps, num⟩ := m
  revert shift ctrl alt caps num
  cases r <;> decide

/-- The registers of the window that reads do not change, each with its value. -/
theorem readValue_plainRegisters {s : State} : ∀ p ∈ plainRegisters s, readValue p.1 s = p.2 := by
  simp only [plainRegisters, List.forall_mem_cons, List.not_mem_nil, false_imp_iff, implies_true, and_true]
  refine ⟨rfl, rfl, rfl, ?status, rfl, ?high, ?info, ?position, ?scanc, ?switch, ?top, rfl, rfl, rfl, rfl, rfl, rfl, rfl, rfl,
    rfl, rfl, rfl⟩
  case status =>
    show (mailboxStateCode s.mb.state <<< 4) ||| resultCode s.mb.result = _
    cases s.mb.state <;> rfl
  case high =>
    show latchedHighByte s = _
    unfold latchedHighByte
    cases s.tq.headLatch <;> rfl
  case info =>
    show latchedInfo s = _
    unfold latchedInfo
    cases h : s.tq.headLatch with
    | none => rfl
    | some r =>
      cases hm : r.mods with
      | none => cases hs : r.source <;> simp [hm, hs, modsBits, recordSourceCode]
      | some m =>
        simp only [Option.map_some, Option.getD_some, hm, modsBits_or_source]
        cases r.source <;> rfl
  case position =>
    show latchedPosition s = _
    unfold latchedPosition
    split <;> simp_all
  case scanc => cases h : s.scan.run <;> simp [readValue, h, bitAt]
  case switch => cases h : s.lv.switch <;> simp [readValue, h, bitAt]
  case top => rfl

theorem readValue_args (s : State) (i : Fin 8) {a : Addr} :
    (a.toNat = 8 + i.val → readValue a s = s.mb.args[i]) ∧ (a.toNat = 16 + i.val → readValue a s = s.mb.res[i]) := by
  constructor <;> intro h <;> unfold readValue <;> rw [h] <;> fin_cases i <;> rfl

theorem readValue_unreadable {a : Addr} (s : State) (h : a ∈ unreadableAddresses) : readValue a s = 0 := by
  simp only [unreadableAddresses, List.mem_cons, List.not_mem_nil, or_false] at h
  rcases h with rfl | rfl | rfl | rfl | rfl | rfl | rfl | rfl | rfl | rfl | rfl | rfl | rfl | rfl | rfl | rfl | rfl | rfl <;>
    rfl

theorem exec_lowByteRead (a : Addr) (s : State) :
    exec (.lowByteRead a) s = .next (hostRead (readValue a) (readEffect a) s) := rfl

/-- The read of a read-only pair's low byte. -/
theorem lowByteRead_pair {s : State} (h : PortOpen s) {a : Addr} (value : State → Half)
    (hvalue : ∀ u, readValue a u = lowByte (value u)) (heffect : readEffect a = fillReadLatch value)
    (hpins : value (samplePins s) = value s) :
    ∃ t, exec (.lowByteRead a) s = .next t ∧ QuietStep [.dataBus, .readLatch] s t ∧
      t.port.dataBus = (value s).setWidth 8 ∧ t.port.readLatch = (value s).extractLsb' 8 8 := by
  rw [exec_lowByteRead, heffect]
  refine hostRead_next h ⟨quietStep_of_frame h.1 ((fillReadLatch_frame value _).trans (driveBus_frame _ _)), ?_, ?_⟩
  · simp [driveBus, hvalue, hpins, lowByte]
  · simp [driveBus, fillReadLatch, hpins, highByte]

/-- A read with no row and no holding latch of its own has no effect. -/
theorem lowByteRead_plain {s : State} (h : PortOpen s) {a : Addr} (heffect : readEffect a = id) :
    ∃ t, exec (.lowByteRead a) s = .next t ∧ QuietStep [.dataBus] s t ∧ t.port.dataBus = readValue a s := by
  rw [exec_lowByteRead, heffect]
  refine hostRead_next h ⟨quietStep_of_frame h.1 (driveBus_frame _ _), ?_⟩
  simp [driveBus, readValue_samplePins]

/-- Settles O9: the pairs fill the read holding latch, every other read returns `readValue` alone, and that is the value
of each register. -/
theorem readsReturnTheRegistersValue : Obligations.ReadsReturnTheRegistersValue := by
  refine ⟨fun s h p hp => ?_, fun a s h hwf h2A h30 h32 => ?_⟩
  · simp only [List.mem_cons, List.not_mem_nil, or_false] at hp
    rcases hp with rfl | rfl | rfl
    · exact lowByteRead_pair h (fun s => s.lv.enables) (fun _ => rfl) rfl (by simp)
    · exact lowByteRead_pair h pendingWord (fun _ => rfl) rfl (by rw [samplePins_eq]; rfl)
    · exact lowByteRead_pair h sourceWord (fun _ => rfl) rfl (by rw [samplePins_eq]; rfl)
  · have hrow : readHasRow a = false := by simpa [Instr.wellFormed] using hwf
    obtain ⟨t, hexec, hquiet, hbus⟩ := lowByteRead_plain h (readEffect_of_no_row hrow h2A h30 h32)
    refine ⟨t, hexec, hquiet, ?_, ?_, ?_, ?_⟩
    · rintro p hp rfl
      rw [hbus, readValue_plainRegisters p hp]
    · rw [hbus]
      exact fun i => readValue_args s i
    · rintro rfl
      rw [hbus]
      obtain ⟨h7, h6, h5, h4, h3, h2, h1, h0⟩ := statusByte_bits s
      refine ⟨h7, h6, h5, h4, h3, h2, ?_, ?_⟩
      · rw [← beq_eq_decide]; exact h1
      · rw [← beq_eq_decide]; exact h0
    · rw [hbus]
      exact readValue_unreadable s

end Sys2Proof.Machine
end

section
-- One lemma at a time: elaborated side by side they ask for more threads than the memory limit of the check leaves.
set_option Elab.async false
/-!
PROOF. Event levels (Chapter 5): pending and eligible levels as statements, the level registers, accept and release.
-/

namespace Sys2Proof.Machine

/-! ### Words of sixteen conditions -/

theorem getLsbD_foldl_setBits (f : Level → Bool) (ls : List Level) (w : Half) (l : Level) :
    (ls.foldl (fun w i => if f i then w ||| (1#16 <<< i.val) else w) w).getLsbD l.val =
      (w.getLsbD l.val || (ls.contains l && f l)) := by
  induction ls generalizing w with
  | nil => simp
  | cons i rest ih =>
    have hbit : (1#16 <<< i.val).getLsbD l.val = decide (l = i) := by
      rw [Bool.eq_iff_iff]
      simp only [BitVec.getLsbD_shiftLeft, BitVec.getLsbD_one, Bool.and_eq_true, Bool.not_eq_true', decide_eq_true_eq,
        decide_eq_false_iff_not, Fin.ext_iff]
      omega
    have hstep : (if f i then w ||| (1#16 <<< i.val) else w).getLsbD l.val = (w.getLsbD l.val || (decide (l = i) && f i)) := by
      cases f i
      · simp only [Bool.false_eq_true, if_false, Bool.and_false, Bool.or_false]
      · simp only [if_true, BitVec.getLsbD_or, hbit, Bool.and_true]
    rw [List.foldl_cons, ih, hstep, List.contains_cons]
    by_cases hi : l = i
    · subst hi
      cases f l <;> simp
    · simp [hi, beq_eq_false_iff_ne.2 hi]

/-- A word of conditions shows each of them in its bit. -/
theorem getLsbD_wordOf (f : Level → Bool) (l : Level) : (wordOf f).getLsbD l.val = f l := by
  rw [wordOf, getLsbD_foldl_setBits]
  simp

/-! ### Pending, eligible and highest levels (R94 to R101) -/

theorem levelPending_iff (s : State) (l : Level) : levelPending s l = true ↔ s.lv.soft.getLsbD l.val = true ∨
    if l.val = 15 then sourceActive s 13 = true ∨ sourceActive s 14 = true
    else ∃ n : Fin 13, s.lv.routes[n].toNat = l.val ∧ sourceActive s n.val = true := by
  have htop : l = 15 ↔ l.val = 15 := Fin.ext_iff
  simp only [levelPending, Bool.or_eq_true, htop]
  split <;> simp [routedActive]

theorem aboveTop_iff (s : State) (l : Level) :
    aboveTop s l = true ↔ s.lv.stack = [] ∨ ∃ top rest, s.lv.stack = top :: rest ∧ top < l := by
  unfold aboveTop
  cases s.lv.stack <;> simp

theorem eligible_iff (s : State) (l : Level) : eligible s l = true ↔
    levelPending s l = true ∧ s.lv.enables.getLsbD l.val = true ∧ (s.lv.switch = true ∨ l = 15) ∧
      (s.lv.stack = [] ∨ ∃ top rest, s.lv.stack = top :: rest ∧ top < l) := by
  simp only [eligible, Bool.and_eq_true, Bool.or_eq_true, decide_eq_true_eq, aboveTop_iff, and_assoc]

/-- In a strictly falling list the first element with a property is the largest. -/
theorem find?_eq_some_iff_of_falling {l : List Level} (hl : l.Pairwise (· > ·)) (p : Level → Bool) (a : Level) :
    l.find? p = some a ↔ a ∈ l ∧ p a = true ∧ ∀ b ∈ l, p b = true → b ≤ a := by
  induction l with
  | nil => simp
  | cons x rest ih =>
    obtain ⟨hx, hrest⟩ := List.pairwise_cons.1 hl
    by_cases hp : p x = true
    · rw [List.find?_cons_of_pos hp]
      constructor
      · rintro ⟨⟩
        exact ⟨List.mem_cons_self, hp, fun b hb _ => (List.mem_cons.1 hb).elim le_of_eq (fun hb => (hx b hb).le)⟩
      · rintro ⟨ha, -, hmax⟩
        obtain rfl | ha := List.mem_cons.1 ha
        · rfl
        · exact absurd (hmax x List.mem_cons_self hp) (not_le.2 (hx a ha))
    · rw [List.find?_cons_of_neg hp, ih hrest]
      simp only [List.mem_cons, forall_eq_or_imp]
      constructor
      · rintro ⟨ha, hpa, hmax⟩
        exact ⟨.inr ha, hpa, fun hpx => absurd hpx hp, hmax⟩
      · rintro ⟨rfl | ha, hpa, -, hmax⟩
        · exact absurd hpa hp
        · exact ⟨ha, hpa, hmax⟩

theorem highestEligible_eq_some_iff (s : State) (l : Level) :
    highestEligible s = some l ↔ eligible s l = true ∧ ∀ m, eligible s m = true → m ≤ l := by
  rw [highestEligible, find?_eq_some_iff_of_falling (by decide)]
  simp

theorem highestEligible_eq_none_iff (s : State) : highestEligible s = none ↔ ∀ l, eligible s l = false := by
  simp [highestEligible]

/-! ### Sources (R90 to R92, R97) -/

/-- A legal latch word has no bit outside the ten latched sources (R90). -/
theorem latch_eq_false_of_legal {s : State} (h : LevelsLegal s) {n : Nat} (hn : n < 16)
    (hmask : (0x39FC#16).getLsbD n = false) : s.lv.latches.getLsbD n = false := by
  have hbit := congrArg (fun w : Half => w.getLsbD n) h.1
  simp only [BitVec.getLsbD_and, BitVec.getLsbD_not, hmask, hn, decide_true, Bool.not_false, Bool.and_true] at hbit
  simpa using hbit

/-- The live conditions, bit by bit. -/
theorem liveWord_getLsbD (s : State) {n : Nat} (hn : n < 16) : (liveWord s).getLsbD n =
    ((decide (n = 0) && decide (1 ≤ queueCount s)) || (decide (n = 1) && decide (s.cfg.watermark.toNat ≤ queueCount s)) ||
     (decide (n = 9) && (s.cfg.chain == 1 && s.lv.atnA)) || (decide (n = 10) && (s.cfg.chain == 1 && s.lv.atnB)) ||
     (decide (n = 14) && s.fault.locked)) := by
  have hbit (c : Prop) [Decidable c] (k : Nat) :
      (if c then 1#16 <<< k else 0).getLsbD n = (decide (n = k) && decide c) := by
    rw [Bool.eq_iff_iff]
    split
    · next hc =>
      simp only [BitVec.getLsbD_shiftLeft, BitVec.getLsbD_one, hn, hc, Bool.and_eq_true, Bool.not_eq_true', decide_eq_true_eq,
        decide_eq_false_iff_not, decide_true, and_true, true_and]
      omega
    · next hc => simp [hc]
  simp only [liveWord, BitVec.getLsbD_or, hbit, Bool.decide_eq_true]

theorem sourceActive_eq (s : State) (n : Nat) : sourceActive s n = (s.lv.latches.getLsbD n || (liveWord s).getLsbD n) := by
  rw [sourceActive, sourceWord, BitVec.getLsbD_or]

/-- A live source is active exactly under its condition. -/
theorem sourceActive_live {s : State} (h : LevelsLegal s) {n : Nat} (hn : n < 16 := by decide)
    (hmask : (0x39FC#16).getLsbD n = false := by decide) : sourceActive s n = (liveWord s).getLsbD n := by
  rw [sourceActive_eq, latch_eq_false_of_legal h hn hmask, Bool.false_or]

/-- Settles O30, clause by clause from the lemmas above. -/
theorem pendingAndEligibleLevels : Obligations.PendingAndEligibleLevels := by
  refine ⟨levelPending_iff, eligible_iff, highestEligible_eq_some_iff, highestEligible_eq_none_iff, fun s h => ?_,
    fun s l => getLsbD_wordOf _ l⟩
  refine ⟨?_, ?_, ?_, ?_, ?_, fun n hn => ?_, ?_, fun n _ => rfl⟩
  · show _ ↔ 1 ≤ queueCount s
    rw [sourceActive_live h, liveWord_getLsbD s (by decide)]
    simp
  · show _ ↔ s.cfg.watermark.toNat ≤ queueCount s
    rw [sourceActive_live h, liveWord_getLsbD s (by decide)]
    simp
  · rw [sourceActive_live h, liveWord_getLsbD s (by decide)]
    simp
  · rw [sourceActive_live h, liveWord_getLsbD s (by decide)]
    simp
  · rw [sourceActive_live h, liveWord_getLsbD s (by decide)]
    simp
  · have hlive : (liveWord s).getLsbD n = false := by
      simp only [List.mem_cons, List.not_mem_nil, or_false] at hn
      rw [liveWord_getLsbD s (by omega)]
      rcases hn with rfl | rfl | rfl | rfl | rfl | rfl | rfl | rfl | rfl | rfl <;> simp
    rw [sourceActive_eq, hlive, Bool.or_false]
  · have hlive := sourceActive_live h (n := 15)
    rw [liveWord_getLsbD s (by decide)] at hlive
    simpa [sourceActive] using hlive

/-! ### What nINT reads -/

/-- Pending levels read the latches, routes, soft requests and chain lines, the queue count, the configuration and the
fault lock. -/
theorem levelPending_congr {s t : State} (hlatches : t.lv.latches = s.lv.latches) (hroutes : t.lv.routes = s.lv.routes)
    (hsoft : t.lv.soft = s.lv.soft) (hlines : t.lv.atnA = s.lv.atnA ∧ t.lv.atnB = s.lv.atnB)
    (hrecords : t.tq.records = s.tq.records) (hconfig : t.cfg = s.cfg) (hfault : t.fault = s.fault) (l : Level) :
    levelPending t l = levelPending s l := by
  have hcount : queueCount t = queueCount s := congrArg List.length hrecords
  have hlive : liveWord t = liveWord s := by
    simp only [liveWord, hcount, hconfig, hfault, hlines.1, hlines.2]
  simp only [levelPending, routedActive, sourceActive, sourceWord, hlive, hlatches, hroutes, hsoft]

/-! ### Level registers (R2, R93, R98 to R100, R149) -/

/-- A whole step whose own work leaves the latch word `latches`. -/
theorem mainStep_of_latching_frame {latches : Half} {parts : List Part} {s u : State} (hr : Runs s)
    (h : Frame (.latches :: parts) (samplePins s) u) (hlatches : u.lv.latches = latches)
    (hpower : Part.power ∉ parts := by decide) : MainStep latches parts s (endStep u) := by
  subst hlatches
  obtain ⟨hends, hchanges⟩ := mainStep_of_frame hr h (by simpa using hpower)
  exact ⟨hends, hchanges.mono (by simp)⟩

theorem committed_samplePins (d : Byte) (s : State) : committed d (samplePins s) = d ++ s.port.writeLatch := by
  simp [committed]

theorem clearSources_latches (mask : Half) (s : State) : (clearSources mask s).lv.latches = s.lv.latches &&& ~~~mask := by
  unfold clearSources
  split <;> rfl

theorem clearSources_wake (mask : Half) (s : State) : (clearSources mask s).tk.wake = (s.tk.wake && !mask.getLsbD 6) := by
  unfold clearSources
  split <;> simp_all [clearWake, clearLatches]

/-- The enable of a level after LVENC: level 15 is out of its reach (R98). -/
theorem clearedEnable (e mask : Half) (l : Level) : (e &&& ~~~(mask &&& 0x7FFF)).getLsbD l.val =
    (e.getLsbD l.val && (!mask.getLsbD l.val || l == 15)) := by
  have hlevels : ∀ l : Level, (0x7FFF#16).getLsbD l.val = !(l == 15) := by decide
  have h7FFF := hlevels l
  simp only [BitVec.getLsbD_and, BitVec.getLsbD_not, l.isLt, decide_true, Bool.true_and]
  rw [show (0x7FFF : Half) = 0x7FFF#16 from rfl, h7FFF]
  cases l == 15 <;> simp

/-- Settles O31: each write's action changes its word, bit by bit as the register says. -/
theorem levelRegisterWritesChangeTheirWord : Obligations.LevelRegisterWritesChangeTheirWord := by
  refine ⟨fun d s h => ⟨?_, ?_, ?_, ?_⟩, fun d s h => ⟨?_, ?_⟩⟩
  · have hexec : exec (.lvens d) s = .next (hostWrite (fun s => setEnables (committed d s) s) s) := rfl
    rw [hexec]
    refine hostWrite_next h ⟨quietStep_of_frame h.1 (setEnables_frame _ _), fun l => ?_⟩
    rw [committed_samplePins, endStep_enables, ← BitVec.getLsbD_or]
    simp [setEnables]
  · have hexec : exec (.lvenc d) s = .next (hostWrite (fun s => clearEnables (committed d s) s) s) := rfl
    rw [hexec]
    refine hostWrite_next h ⟨quietStep_of_frame h.1 (clearEnables_frame _ _), fun l => ?_⟩
    rw [committed_samplePins, endStep_enables, ← clearedEnable]
    simp [clearEnables]
  · have hexec : exec (.lvrqs d) s = .next (hostWrite (fun s => setSoft (committed d s) s) s) := rfl
    rw [hexec]
    refine hostWrite_next h ⟨quietStep_of_frame h.1 (setSoft_frame _ _), fun l => ?_⟩
    rw [committed_samplePins, endStep_soft, ← BitVec.getLsbD_or]
    simp [setSoft]
  · have hexec : exec (.lvrqc d) s = .next (hostWrite (fun s => clearSoft (committed d s) s) s) := rfl
    rw [hexec]
    refine hostWrite_next h ⟨quietStep_of_frame h.1 (clearSoft_frame _ _), fun l => ?_⟩
    simp [committed_samplePins, clearSoft]
  · have hexec : exec (.srccl d) s = .next (hostWrite (fun s => clearSources (committed d s) s) s) := rfl
    rw [hexec]
    refine hostWrite_next h ?_
    rw [committed_samplePins]
    exact ⟨mainStep_of_latching_frame h.1 (clearSources_frame _ _) (by rw [clearSources_latches]; simp),
      by rw [endStep_tk, clearSources_wake]; simp⟩
  · have hexec : exec (.lvctlWrite d) s = .next (hostWrite (writeSwitch d) s) := rfl
    rw [hexec]
    refine hostWrite_next h ⟨quietStep_of_frame h.1 (writeSwitch_frame _ _), ?_⟩
    rw [endStep_switch]
    unfold writeSwitch
    split
    · rfl
    · split <;> simp

end Sys2Proof.Machine
end

section
-- One lemma at a time: elaborated side by side they ask for more threads than the memory limit of the check leaves.
set_option Elab.async false
/-!
PROOF. Host accesses with rows of their own: accept and release, FLDB, SCANC, the queue's registers, IDSTART and the kick of
the watchdog.
-/

namespace Sys2Proof.Machine

/-! ### Accept and release (R104 to R106) -/

theorem acceptLevel_of_highest {s : State} {l : Level} (h : highestEligible s = some l) :
    acceptLevel s = { s with lv := { s.lv with stack := l :: s.lv.stack } } := by
  unfold acceptLevel
  rw [h]

theorem acceptByte_of_highest {s : State} {l : Level} (h : highestEligible s = some l) : acceptByte s = byteOf l.val := by
  unfold acceptByte
  rw [h]

theorem accept_of_none {s : State} (h : highestEligible s = none) : acceptByte s = 0xFF ∧ acceptLevel s = s := by
  unfold acceptByte acceptLevel
  rw [h]
  exact ⟨rfl, rfl⟩

theorem eligible_samplePins (s : State) (l : Level) : eligible (samplePins s) l = eligible s l := by
  rw [samplePins_eq]
  rfl

theorem highestEligible_samplePins (s : State) : highestEligible (samplePins s) = highestEligible s := by
  rw [samplePins_eq]
  rfl

/-- After the highest level is pushed nINT is released, unless the end of the step finds changed inputs. -/
theorem nint_after_push {s t : State} {l : Level} (hstep : QuietStep [.dataBus, .stack] s t)
    (hstack : t.lv.stack = l :: s.lv.stack) (hmax : ∀ m, eligible s m = true → m ≤ l) (habove : aboveTop s l = true)
    (hpower : (seenPins s).vddLow = false) (hA : (seenPins s).atnA = s.lv.atnA) (hB : (seenPins s).atnB = s.lv.atnB) :
    t.lv.nint = false := by
  obtain ⟨⟨-, hlatches, -, hatnA, hatnB, hnint⟩, -, hsame⟩ := hstep
  have hpending := levelPending_congr (s := s) (t := t) (by simp [hlatches, withPowerLow, hpower])
    (hsame .routes (by decide)) (hsame .soft (by decide)) ⟨hatnA.trans hA, hatnB.trans hB⟩ (hsame .records (by decide))
    (hsame .config (by decide)) (hsame .fault (by decide))
  have henables : t.lv.enables = s.lv.enables := hsame .enables (by decide)
  have hswitch : t.lv.switch = s.lv.switch := hsame .switch (by decide)
  have hnone : ∀ m, eligible t m = false := by
    intro m
    rw [← Bool.not_eq_true, eligible_iff, hpending, henables, hswitch, hstack]
    rintro ⟨hp, he, hs, hempty | ⟨top, rest, htop, hlt⟩⟩
    · cases hempty
    · cases htop
      have hm : eligible s m = true := by
        rw [eligible_iff]
        refine ⟨hp, he, hs, ?_⟩
        obtain hempty | ⟨top, rest, htop, hl⟩ := (aboveTop_iff s l).1 habove
        · exact .inl hempty
        · exact .inr ⟨top, rest, htop, hl.trans hlt⟩
      exact absurd (hmax m hm) (not_le.2 hlt)
  rw [hnint, interruptLine, (highestEligible_eq_none_iff t).2 hnone]
  simp

theorem clearSoft_bit (soft : Half) (top l : Level) :
    (soft &&& ~~~(1#16 <<< top.val)).getLsbD l.val = (soft.getLsbD l.val && l != top) := by
  have hbit : (1#16 <<< top.val).getLsbD l.val = (l == top) := by
    rw [Bool.eq_iff_iff]
    simp only [BitVec.getLsbD_shiftLeft, BitVec.getLsbD_one, Bool.and_eq_true, Bool.not_eq_true', decide_eq_true_eq,
      decide_eq_false_iff_not, beq_iff_eq, Fin.ext_iff]
    omega
  simp only [BitVec.getLsbD_and, BitVec.getLsbD_not, l.isLt, decide_true, Bool.true_and, hbit]
  rfl

theorem releaseLevel_of_cons {s : State} {top : Level} {rest : List Level} (h : s.lv.stack = top :: rest) :
    releaseLevel s = clearSoft (1#16 <<< top.val) { s with lv := { s.lv with stack := rest } } := by
  unfold releaseLevel
  rw [h]

theorem releaseLevel_of_nil {s : State} (h : s.lv.stack = []) :
    releaseLevel s = capture ⟨.sequence, .levels, 0xFF, 0⟩ s := by
  unfold releaseLevel
  rw [h]

theorem exec_accept (s : State) : exec .accept s = .next (hostRead acceptByte acceptLevel s) := rfl

theorem exec_release (d : Byte) (s : State) : exec (.release d) s = .next (hostWrite releaseLevel s) := rfl

/-- Settles O32: the read pushes what `highestEligible` finds, the write pops the top, and nINT follows the stack. -/
theorem acceptPushesAndReleasePops : Obligations.AcceptPushesAndReleasePops := by
  refine ⟨fun s h => ⟨fun l hl hmax => ?_, fun hnone => ?_⟩, fun d s h => ⟨fun top rest hstack => ?_, fun hstack => ?_⟩⟩
  · have hhigh : highestEligible (samplePins s) = some l := by
      rw [highestEligible_samplePins, highestEligible_eq_some_iff]
      exact ⟨hl, hmax⟩
    rw [exec_accept]
    refine hostRead_next h ?_
    rw [acceptByte_of_highest hhigh, acceptLevel_of_highest hhigh]
    have hstep : QuietStep [.dataBus, .stack] s (endStep (driveBus (byteOf l.val)
        { samplePins s with lv := { (samplePins s).lv with stack := l :: (samplePins s).lv.stack } })) :=
      quietStep_of_frame h.1 ((setStack_frame _ _).trans (driveBus_frame _ _))
    refine ⟨hstep, by simp [driveBus], by simp [driveBus], nint_after_push hstep (by simp [driveBus]) hmax ?_⟩
    exact (aboveTop_iff s l).2 ((eligible_iff s l).1 hl).2.2.2
  · have hhigh : highestEligible (samplePins s) = none := by
      rw [highestEligible_samplePins, highestEligible_eq_none_iff]
      exact hnone
    obtain ⟨hbyte, hstay⟩ := accept_of_none hhigh
    rw [exec_accept]
    refine hostRead_next h ?_
    rw [hbyte, hstay]
    exact ⟨quietStep_of_frame h.1 (driveBus_frame _ _), by simp [driveBus]⟩
  · rw [exec_release]
    refine hostWrite_next h ?_
    rw [releaseLevel_of_cons (top := top) (rest := rest) (by simpa using hstack)]
    refine ⟨quietStep_of_frame h.1 ((setStack_frame _ _).trans (clearSoft_frame _ _)), by simp [clearSoft], fun l => ?_⟩
    rw [endStep_soft, ← clearSoft_bit]
    simp [clearSoft]
  · rw [exec_release]
    refine hostWrite_next h ?_
    rw [releaseLevel_of_nil (by simpa using hstack)]
    exact ⟨quietStep_of_frame h.1 (capture_frame _ _), by simp [capture, captureAll]⟩

/-! ### FLDB (R134 to R136) -/

/-- Settles O38: the read's effect is `unlockFault`, and source FAULT is live on the lock alone. -/
theorem fldbReadUnlocksTheRecord : Obligations.FldbReadUnlocksTheRecord := by
  intro s h
  have hexec : exec .fldbRead s = .next (hostRead (fun s => s.fault.detailB) unlockFault s) := rfl
  rw [hexec]
  refine hostRead_next h ⟨quietStep_of_frame h.1 ((unlockFault_frame _).trans (driveBus_frame _ _)), ?_, ?_, fun hlegal => ?_⟩
  · simp [driveBus]
  · simp [driveBus, unlockFault]
  · have hunlocked : LevelsLegal (driveBus s.fault.detailB (unlockFault (samplePins s))) := by
      simpa [LevelsLegal, driveBus, unlockFault] using hlegal
    have hended : LevelsLegal (endStep (driveBus s.fault.detailB (unlockFault (samplePins s)))) := by
      obtain ⟨hlatches, henables⟩ := hunlocked
      refine ⟨?_, by rwa [endStep_enables]⟩
      rw [endStep_latches]
      split
      · exact latchesLegal_or hlatches (by decide)
      · exact hlatches
    rw [samplePins_fault, sourceActive_live hended, liveWord_getLsbD _ (by decide)]
    simp [driveBus, unlockFault]

/-! ### SCANC (R37, R38, R70) -/

theorem stopScanning_of_running {s : State} (h : s.scan.run = true) : stopScanning s =
    forgetKeys { s with scan := { s.scan with run := false, timer := 0, ready := false, positions := [], raw := 0 } } := by
  simp [stopScanning, h]

theorem stopScanning_of_stopped {s : State} (h : s.scan.run = false) : stopScanning s = s := by
  simp [stopScanning, h]

theorem startScanning_of_stopped {s : State} (h : s.scan.run = false) :
    startScanning s = restartScanTimer { s with scan := { s.scan with run := true } } := by
  simp [startScanning, h]

theorem startScanning_of_running {s : State} (h : s.scan.run = true) : startScanning s = s := by
  simp [startScanning, h]

theorem exec_scancStop (s : State) : exec .scancStop s = .next (hostWrite stopScanning s) := rfl

theorem exec_scancRun (s : State) : exec .scancRun s = .next (hostWrite startScanning s) := rfl

/-- Settles O27, in both states of each write. -/
theorem scanControlStopsAndStarts : Obligations.ScanControlStopsAndStarts := by
  intro s h
  refine ⟨fun hrun => ?_, fun hstopped => ?_, fun hstopped => ?_, fun hrun => ?_⟩
  · rw [exec_scancStop]
    refine hostWrite_next h ⟨quietStep_of_frame h.1 (stopScanning_frame _), ?_⟩
    rw [stopScanning_of_running (by simpa using hrun)]
    simp [forgetKeys, cancelRepeat, clearCompose, posOf, Table.get, builtInPos]
  · rw [exec_scancStop]
    refine hostWrite_next h ?_
    rw [stopScanning_of_stopped (by simpa using hstopped)]
    exact quietStep_of_frame h.1 (Frame.refl _ _)
  · rw [exec_scancRun]
    refine hostWrite_next h ⟨quietStep_of_frame h.1 (startScanning_frame _), ?_⟩
    rw [startScanning_of_stopped (by simpa using hstopped)]
    refine ⟨by simp, by simp, by simp, ?_⟩
    simp only [endStep_scan, restartScanTimer_scan, samplePins_cfg]
    rfl
  · rw [exec_scancRun]
    refine hostWrite_next h ?_
    rw [startScanning_of_running (by simpa using hrun)]
    exact quietStep_of_frame h.1 (Frame.refl _ _)

/-! ### IDSTART (R114) -/

theorem startIdentify_of_run {s : State} (d : Byte) (h : s.id.state = .run) :
    startIdentify d s = capture (identifyFault .busyViolation 0xFF d) s := if_pos h

theorem startIdentify_of_above {s : State} {d : Byte} (h : s.id.state ≠ .run) (hd : 15 < d.toNat) :
    startIdentify d s = capture (identifyFault .badArgument 0xFF d) (postResult 0x1F 0xFF s) := by
  rw [startIdentify, if_neg h, if_pos hd]

theorem startIdentify_of_level {s : State} {d : Byte} {l : Level} (h : s.id.state ≠ .run) (hd : d.toNat = l.val) :
    startIdentify d s = { s with id := { s.id with state := .run, level := some l } } := by
  have hl : Fin.ofNat 16 d.toNat = l := Fin.ext (by simp [hd])
  rw [startIdentify, if_neg h, if_neg (by omega), hl]

theorem exec_idstart (d : Byte) (s : State) : exec (.idstart d) s = .next (hostWrite (startIdentify d) s) := rfl

/-- Settles O34, in the three cases of R114. -/
theorem identifyStartIsTakenOrRefused : Obligations.IdentifyStartIsTakenOrRefused := by
  intro d s h
  rw [exec_idstart]
  refine ⟨fun hrun => hostWrite_next h ?_, fun hfree hd => hostWrite_next h ?_, fun l hfree hd => hostWrite_next h ?_⟩
  · rw [startIdentify_of_run d (by simpa using hrun)]
    exact ⟨quietStep_of_frame h.1 (capture_frame _ _), by simp [capture, captureAll, identifyFault]⟩
  · rw [startIdentify_of_above (by simpa using hfree) hd]
    refine ⟨quietStep_of_frame h.1 ((postResult_frame _ _ _).trans (capture_frame _ _)), ?_, ?_⟩
    · simp [capture, captureAll, postResult]
    · simp [capture, captureAll, postResult, identifyFault]
  · rw [startIdentify_of_level (by simpa using hfree) hd]
    exact ⟨quietStep_of_frame h.1 (setIdentify_frame _ _), by simp⟩

/-! ### The queue's registers (R75, R77, R79) -/

theorem tqlostRead_clears {s : State} (h : PortOpen s) : ∃ t, exec .tqlostRead s = .next t ∧
    QuietStep [.dataBus, .lost] s t ∧ t.port.dataBus = s.tq.lost ∧ t.tq.lost = 0 := by
  have hexec : exec .tqlostRead s = .next (hostRead (fun s => s.tq.lost) clearLost s) := rfl
  rw [hexec]
  refine hostRead_next h ⟨quietStep_of_frame h.1 ((clearLost_frame _).trans (driveBus_frame _ _)), ?_, ?_⟩
  · simp [driveBus]
  · simp [driveBus, clearLost]

theorem headSnapshot_latches {s : State} (h : PortOpen s) : ∃ t, exec .headSnapshot s = .next t ∧
    QuietStep [.dataBus, .headLatch] s t ∧ t.tq.headLatch = s.tq.records.head? ∧
    t.port.dataBus = (match s.tq.records with | [] => 0 | r :: _ => r.token.setWidth 8) := by
  have hexec : exec .headSnapshot s = .next (hostRead headLowByte takeSnapshot s) := rfl
  rw [hexec]
  refine hostRead_next h ⟨quietStep_of_frame h.1 ((takeSnapshot_frame _).trans (driveBus_frame _ _)), ?_, ?_⟩
  · simp [driveBus, takeSnapshot]
  · simp only [endStep_port, driveBus, headLowByte, samplePins_tq]
    cases s.tq.records <;> rfl

theorem tqtake_removes {s : State} (h : PortOpen s) (d : Byte) : ∃ t, exec (.tqtake d) s = .next t ∧
    QuietStep [.records] s t ∧ t.tq.records = s.tq.records.drop 1 := by
  have hexec : exec (.tqtake d) s = .next (hostWrite removeHead s) := rfl
  rw [hexec]
  exact hostWrite_next h ⟨quietStep_of_frame h.1 (removeHead_frame _), by simp [removeHead]⟩

/-! ### The kick (R172) -/

theorem kickWatchdog_wd (s : State) : (kickWatchdog s).wd = if s.wd.state = .disabled then s.wd
    else { state := .armed, count := 0, active := s.wd.pending, pending := s.wd.pending } := by
  unfold kickWatchdog
  split <;> rfl

theorem wdkick_restarts {s : State} (h : PortOpen s) (d : Byte) : ∃ t, exec (.wdkick d) s = .next t ∧
    QuietStep [.watchdog] s t ∧ t.wd = if s.wd.state = .disabled then s.wd
      else { state := .armed, count := 0, active := s.wd.pending, pending := s.wd.pending } := by
  have hexec : exec (.wdkick d) s = .next (hostWrite kickWatchdog s) := rfl
  rw [hexec]
  refine hostWrite_next h ⟨quietStep_of_frame h.1 (kickWatchdog_frame _), ?_⟩
  rw [endStep_wd, kickWatchdog_wd, samplePins_wd]

end Sys2Proof.Machine
end

section
-- One lemma at a time: elaborated side by side they ask for more threads than the memory limit of the check leaves.
set_option Elab.async false
/-!
PROOF. Argument checks (R12): the checks of every mailbox command as one table, what the first failing check reports, and the
rejection of a bad code or argument.
-/

namespace Sys2Proof.Machine

/-- The argument checks of a mailbox command, as its body writes them (`commandBody_rejects`). -/
def argChecks (s : State) : Instr → List (Bool × Nat)
  | .setConfig => [(fieldNamed s.mb.work[0], 0), (fieldInRange s.mb.work[0].toNat s.mb.work[1], 1)]
  | .readConfig => [(fieldNamed s.mb.work[0], 0)]
  | .loadEntry | .readEntry => entryChecks s
  | .setClass =>
    [(decide (s.mb.work[0].toNat ≤ 127), 0), (decide (s.mb.work[1].toNat ≤ 13), 1),
     (digitGood s.mb.work[1] s.mb.work[2], 2)]
  | .readClass => [(decide (s.mb.work[0].toNat ≤ 127), 0)]
  | .setChord =>
    [(decide (s.mb.work[0].toNat ≤ 3), 0), (decide (s.mb.work[1].toNat ≤ 7), 1), (decide (s.mb.work[2].toNat ≤ 127), 2),
     (decide (s.mb.work[3].toNat ≤ 3), 3), (decide (s.mb.work[4].toNat ≤ 1), 4)]
  | .readChord => [(decide (s.mb.work[0].toNat ≤ 3), 0)]
  | .setLocks => setLocksChecks s
  | .setRoute => [(decide (s.mb.work[0].toNat ≤ 12), 0), (decide (s.mb.work[1].toNat ≤ 15), 1)]
  | .readRoute => [(decide (s.mb.work[0].toNat ≤ 12), 0)]
  | .setTime _ =>
    [(decide (s.mb.work[0].toNat ≤ 23), 0), (decide (s.mb.work[1].toNat ≤ 59), 1), (decide (s.mb.work[2].toNat ≤ 59), 2)]
  | .setDate _ =>
    [(decide (s.mb.work[0].toNat ≤ 99), 0),
     (decide (1 ≤ s.mb.work[1].toNat) && decide (s.mb.work[1].toNat ≤ 12), 1),
     (decide (1 ≤ s.mb.work[2].toNat) &&
      decide (s.mb.work[2].toNat ≤ monthLength s.mb.work[0].toNat s.mb.work[1].toNat), 2),
     (decide (s.mb.work[3].toNat ≤ 6), 3)]
  | .setAlarm _ =>
    [(alarmGood 23 s.mb.work[0], 0), (alarmGood 59 s.mb.work[1], 1), (alarmGood 59 s.mb.work[2], 2),
     (decide (s.mb.work[3].toNat ≤ 1), 3)]
  | .setAdjust _ => [(adjustGood s.mb.work[0], 0)]
  | .backupRead =>
    [(decide (s.mb.work[0].toNat ≤ 63), 0), (decide (1 ≤ s.mb.work[1].toNat) && decide (s.mb.work[1].toNat ≤ 8), 1),
     (decide (s.mb.work[0].toNat + s.mb.work[1].toNat ≤ 64), 1)]
  | .backupWrite _ =>
    [(decide (s.mb.work[0].toNat ≤ 33), 0), (decide (1 ≤ s.mb.work[1].toNat) && decide (s.mb.work[1].toNat ≤ 6), 1),
     (decide (s.mb.work[0].toNat + s.mb.work[1].toNat ≤ 34), 1)]
  | .watchdogSet => [(decide (s.mb.work[0].toNat ≤ 3), 0), (decide (s.mb.work[1].toNat ≤ 1), 1)]
  | _ => []

/-! ### What the checks report -/

/-- One check of a list, as an `if` on its failure. -/
theorem firstFailing_step {b : Bool} {p : Prop} [Decidable p] (h : b = true ↔ ¬ p) (i : Nat) (rest : List (Bool × Nat)) :
    firstFailing ((b, i) :: rest) = if p then some i else firstFailing rest := by
  rw [firstFailing_cons]
  by_cases hp : p
  · rw [if_neg (by tauto), if_pos hp]
  · rw [if_pos (h.2 hp), if_neg hp]

theorem fieldNamed_iff (b : Byte) : fieldNamed b = true ↔ ¬ (b.toNat < 1 ∨ 12 < b.toNat) := by
  simp only [fieldNamed, Bool.and_eq_true, decide_eq_true_eq]
  omega

theorem digitGood_iff (code digit : Byte) :
    digitGood code digit = true ↔ digit.toNat = 255 ∨ (code.toNat = 2 ∧ digit.toNat ≤ 9) := by
  simp only [digitGood, Bool.or_eq_true, Bool.and_eq_true, beq_iff_eq, decide_eq_true_eq, ← BitVec.toNat_inj]
  exact Iff.rfl

theorem alarmGood_iff (max : Nat) (b : Byte) : alarmGood max b = true ↔ ¬ (max < b.toNat ∧ b.toNat ≠ 255) := by
  simp only [alarmGood, Bool.or_eq_true, decide_eq_true_eq, beq_iff_eq, ← BitVec.toNat_inj]
  have h255 : (0xFF : Byte).toNat = 255 := rfl
  omega

theorem adjustGood_iff (b : Byte) : adjustGood b = true ↔ ¬ (0x40 ≤ b.toNat ∧ b.toNat ≤ 0xBF) := by
  simp only [adjustGood, Bool.or_eq_true, decide_eq_true_eq]
  omega

/-- The first failing check reports what R12 has the command report. -/
theorem firstFailing_argChecks (s : State) (c : Instr) : firstFailing (argChecks s c) = badIndex s c := by
  have hbound (n m : Nat) : decide (n ≤ m) = true ↔ ¬ m < n := by simp
  have hwork (i : Nat) (hi : i < 8) : s.mb.work.getD i 0 = s.mb.work[i] := row_getD _ _ hi
  cases c
  case setConfig =>
    simp only [argChecks, badIndex, argNat, hwork 0 (by decide), hwork 1 (by decide)]
    rw [firstFailing_step (fieldNamed_iff _), firstFailing_cons]
    rfl
  case readConfig =>
    simp only [argChecks, badIndex, argNat, hwork 0 (by decide)]
    rw [firstFailing_step (fieldNamed_iff _)]
    rfl
  case loadEntry | readEntry =>
    simp only [argChecks, entryChecks, badIndex, argNat, hwork 0 (by decide), hwork 1 (by decide)]
    rw [firstFailing_step (hbound _ _), firstFailing_step (hbound _ _)]
    rfl
  case setClass =>
    simp only [argChecks, badIndex, argNat, hwork 0 (by decide), hwork 1 (by decide), hwork 2 (by decide)]
    rw [firstFailing_step (hbound _ _), firstFailing_step (hbound _ _), firstFailing_cons]
    simp only [digitGood_iff, firstFailing_nil]
  case readClass | readChord | readRoute =>
    simp only [argChecks, badIndex, argNat, hwork 0 (by decide)]
    rw [firstFailing_step (hbound _ _)]
    rfl
  case setChord =>
    simp only [argChecks, badIndex, argNat, hwork 0 (by decide), hwork 1 (by decide), hwork 2 (by decide),
      hwork 3 (by decide), hwork 4 (by decide)]
    rw [firstFailing_step (hbound _ _), firstFailing_step (hbound _ _), firstFailing_step (hbound _ _),
      firstFailing_step (hbound _ _), firstFailing_step (hbound _ _)]
    rfl
  case setLocks => exact firstFailing_setLocksChecks s
  case setRoute | watchdogSet =>
    simp only [argChecks, badIndex, argNat, hwork 0 (by decide), hwork 1 (by decide)]
    rw [firstFailing_step (hbound _ _), firstFailing_step (hbound _ _)]
    rfl
  case setTime =>
    simp only [argChecks, badIndex, argNat, hwork 0 (by decide), hwork 1 (by decide), hwork 2 (by decide)]
    rw [firstFailing_step (hbound _ _), firstFailing_step (hbound _ _), firstFailing_step (hbound _ _)]
    rfl
  case setDate =>
    have hrange (n m : Nat) : (decide (1 ≤ n) && decide (n ≤ m)) = true ↔ ¬ (n < 1 ∨ m < n) := by simp; omega
    simp only [argChecks, badIndex, argNat, hwork 0 (by decide), hwork 1 (by decide), hwork 2 (by decide),
      hwork 3 (by decide)]
    rw [firstFailing_step (hbound _ _), firstFailing_step (hrange _ _), firstFailing_step (hrange _ _),
      firstFailing_step (hbound _ _)]
    rfl
  case setAlarm =>
    simp only [argChecks, badIndex, argNat, hwork 0 (by decide), hwork 1 (by decide), hwork 2 (by decide),
      hwork 3 (by decide)]
    rw [firstFailing_step (alarmGood_iff _ _), firstFailing_step (alarmGood_iff _ _), firstFailing_step (alarmGood_iff _ _),
      firstFailing_step (hbound _ _)]
    rfl
  case setAdjust =>
    simp only [argChecks, badIndex, argNat, hwork 0 (by decide)]
    rw [firstFailing_step (adjustGood_iff _)]
    rfl
  case backupRead | backupWrite =>
    have hrange (n m : Nat) : (decide (1 ≤ n) && decide (n ≤ m)) = true ↔ ¬ (n < 1 ∨ m < n) := by simp; omega
    simp only [argChecks, badIndex, argNat, hwork 0 (by decide), hwork 1 (by decide)]
    rw [firstFailing_step (hbound _ _), firstFailing_step (hrange _ _), firstFailing_step (hbound _ _)]
    rfl
  all_goals rfl

/-- The checks read the working copy, which the start of a step leaves alone. -/
theorem firstFailing_argChecks_samplePins (s : State) (c : Instr) :
    firstFailing (argChecks (samplePins s) c) = badIndex s c := by
  rw [firstFailing_argChecks, samplePins_eq]
  rfl

/-! ### Rejection -/

theorem withChecks_bad {checks : List (Bool × Nat)} {act : State → State} {s : State} {i : Nat}
    (h : firstFailing checks = some i) : withChecks checks act s = completeBadArgument i s := by
  simp [withChecks, h]

theorem withChecksCut_bad {checks : List (Bool × Nat)} {act : State → State} {s : State} {i : Nat}
    (h : firstFailing checks = some i) : withChecksCut none checks act s = completeBadArgument i s := by
  simp [withChecksCut, h]

/-- Every row of the table of codes is a mailbox command with a body. -/
theorem commandBody_of_code {code : Byte} {c : Instr} (h : CommandCode code c) : ∃ body, CommandBody c code body := by
  have hall : ∀ r ∈ commandTable, ∃ body, CommandBody r.2 r.1 body := by
    unfold commandTable
    repeat refine List.forall_mem_cons.2 ⟨⟨_, by constructor⟩, ?_⟩
    exact List.forall_mem_nil _
  exact hall _ h

/-- A command of the table with a bad argument does nothing but report it (R12). -/
theorem commandBody_rejects {code : Byte} {c : Instr} {body : State → State} (h : CommandBody c code body)
    (hc : CommandCode code c) {s : State} {i : Nat} (hbad : badIndex s c = some i) : body s = completeBadArgument i s := by
  have hf : firstFailing (argChecks s c) = some i := by rw [firstFailing_argChecks, hbad]
  cases h with
  | loadEntry | readEntry | setClass | readClass | setChord | readChord | setLocks | setRoute | readRoute | backupRead
  | setConfig | readConfig | watchdogSet => exact withChecks_bad hf
  | setTime cut | setDate cut | setAlarm cut | setAdjust cut | backupWrite cut =>
    obtain rfl : cut = none := by simpa [CommandCode, commandTable] using hc
    exact withChecksCut_bad hf
  | echo | resetDevice | restoreLayout | readKeystate | endHold | insert | flush | readTime | readAlarm | readResetRecord
  | loadConfig | clearAlarm | clearResetRecord | saveConfig => cases hbad

/-- A started command of the table with a bad argument is rejected with its index (R12). -/
theorem rejects_of_badIndex {code : Byte} {c : Instr} {s : State} {i : Nat} (hc : CommandCode code c) (h : Started code s)
    (hbad : badIndex s c = some i) : ∃ t, exec c s = .next t ∧ Rejects code i s t := by
  obtain ⟨body, hbody⟩ := commandBody_of_code hc
  have hf : firstFailing (argChecks (samplePins s) c) = some i := by rw [firstFailing_argChecks_samplePins, hbad]
  rw [exec_commandBody hbody]
  refine started_next h ?_
  rw [commandBody_rejects hbody hc ((firstFailing_argChecks _ _).symm.trans hf), ← withChecks_bad (act := id) hf]
  exact rejects_withChecks h hf

/-! ### Unknown codes -/

/-- A code with no row names no command. -/
theorem commandOf_eq_none {code : Byte} (h : ∀ c, (code, c) ∉ commandTable) : commandOf code = none := by
  simp only [commandOf, Option.map_eq_none_iff, List.find?_eq_none]
  rintro ⟨k, c⟩ hmem heq
  obtain rfl : k = code := by simpa using heq
  exact h c hmem

theorem code_of_commandTable {code : Byte} {c : Instr} (h : (code, c) ∈ commandTable) :
    1 ≤ code.toNat ∧ code.toNat ≤ 0x70 := by
  have hall : ∀ r ∈ commandTable, 1 ≤ r.1.toNat ∧ r.1.toNat ≤ 0x70 := by decide
  exact hall _ h

/-- Settles O11: an unknown code completes with its fault; a bad argument is what the first failing check reports. -/
theorem badCodesAndArgumentsAreReported : Obligations.BadCodesAndArgumentsAreReported := by
  refine ⟨fun code s h hnone => ?_, fun code hcode c hmem => ?_, fun code c s i => rejects_of_badIndex⟩
  · have hready : badCommandReady s = true := by
      simp [badCommandReady, mainRunning_of_runs h.1, h.2.1, h.2.2, commandOf_eq_none hnone]
    have hexec : exec .badCommand s = .next (endStep (badCommandBody (samplePins s))) := by
      show Host.Outcome.next (if badCommandReady s then stepOf badCommandBody s else s) = _
      rw [if_pos hready]
      rfl
    have hrunning : runningCode (samplePins s) = code := by simp [runningCode, h.2.2]
    obtain ⟨hcompletes, hfault⟩ := completes_capture_of_frame (r := .badCommand) (out := Row.zero) (parts := [])
      ⟨.badCommand, .mailbox, code, 0⟩ h (Frame.refl [] (samplePins s))
    rw [badCommandBody, hrunning] at hexec
    exact ⟨_, hexec, hcompletes, by rw [hfault, samplePins_fault]⟩
  · obtain ⟨hlow, hhigh⟩ := code_of_commandTable hmem
    rcases hcode with rfl | hcode
    · exact absurd hlow (by decide)
    · omega

end Sys2Proof.Machine
end

section
-- One lemma at a time: elaborated side by side they ask for more threads than the memory limit of the check leaves.
set_option Elab.async false
/-!
PROOF. Mailbox commands on the configuration, the tables of translation, the routes and the queue: what each completes with
once its arguments are in range.
-/

namespace Sys2Proof.Machine

/-- A started command is one whole step around its body. -/
theorem exec_started {code : Byte} {c : Instr} {body : State → State} (hbody : CommandBody c code body) {s : State}
    (h : Started code s) : exec c s = .next (endStep (body (samplePins s))) := by
  rw [exec_commandBody hbody, commandStep_started h]

/-- The checks of a command whose arguments are in range all pass. -/
theorem checks_pass {s : State} {c : Instr} (h : badIndex s c = none) : firstFailing (argChecks (samplePins s) c) = none := by
  rw [firstFailing_argChecks_samplePins, h]

theorem work_getD (s : State) (i : Nat) (hi : i < 8 := by decide) : s.mb.work.getD i 0 = s.mb.work[i] := row_getD _ i hi

/-! ### SET-CONFIG and READ-CONFIG (R18, R19) -/

theorem fieldSet_chords (c : OpConfig) (id : Nat) (v : Byte) : (fieldSet c id v).chords = c.chords := by
  unfold fieldSet
  split <;> rfl

theorem setConfig_completes {s : State} (h : Started 0x60 s) (hgood : badIndex s .setConfig = none) :
    ∃ t, exec .setConfig s = .next t ∧ Completes .ok Row.zero [.config] s t ∧
      t.cfg = fieldSet s.cfg (argNat s 0) (s.mb.work.getD 1 0) := by
  refine ⟨_, exec_started .setConfig h, ?_⟩
  have hbody : setConfigBody (samplePins s) = _ := withChecks_ok (checks_pass hgood)
  rw [hbody]
  refine ⟨completes_of_frame h (setConfiguration_frame _ _), ?_⟩
  rw [argNat_eq s 0 (by decide), work_getD s 1]
  simp

theorem namedField {s : State} {c : Instr} (hc : c = .setConfig ∨ c = .readConfig) (h : badIndex s c = none) :
    1 ≤ argNat s 0 ∧ argNat s 0 ≤ 12 := by
  rcases hc with rfl | rfl <;> simp only [badIndex] at h <;> split at h
  · cases h
  · omega
  · cases h
  · omega

/-- Settles O13: one field is set, and one field is read. -/
theorem configCommandsWriteAndReadOneField : Obligations.ConfigCommandsWriteAndReadOneField := by
  refine ⟨fun s h hgood => ?_, fun s h hgood => ?_⟩
  · obtain ⟨t, hexec, hcompletes, hcfg⟩ := setConfig_completes h hgood
    refine ⟨t, hexec, hcompletes, by rw [hcfg, fieldSet_chords], fun id _ _ => ?_⟩
    rw [hcfg, fieldGet_fieldSet _ (namedField (.inl rfl) hgood)]
  · refine ⟨_, exec_started .readConfig h, ?_⟩
    have hbody : readConfigBody (samplePins s) = _ := withChecks_ok (checks_pass hgood)
    rw [hbody, row_set_oneByte, argNat_eq s 0 (by decide)]
    simpa using completes_of_frame (r := .ok) (out := oneByte (fieldGet s.cfg (s.mb.work[0]).toNat)) h
      (Frame.refl [] (samplePins s))

/-! ### LOAD-ENTRY and READ-ENTRY (R63, R64) -/

theorem entryKey_inj {p c q d : Nat} (hc : c ≤ 4) (hd : d ≤ 4) (h : entryKey p c = entryKey q d) : p = q ∧ c = d := by
  simp only [entryKey] at h
  omega

theorem parityGood_freshEntry (v : Half) : parityGood (freshEntry v) = true := by simp [parityGood, freshEntry]

/-- The parity check of R42 as the count of the 17 stored ones. -/
theorem parityGood_iff (e : Entry) : parityGood e = true ↔ (onesIn e.value + (if e.parity then 1 else 0)) % 2 = 1 := by
  obtain ⟨v, parity⟩ := e
  by_cases heven : onesIn v % 2 = 0 <;> cases parity <;> simp [parityGood, freshParity, heven] <;> omega

theorem entryAddress {s : State} {c : Instr} (hc : c = .loadEntry ∨ c = .readEntry) (h : badIndex s c = none) :
    argNat s 0 ≤ 127 ∧ argNat s 1 ≤ 4 := by
  rcases hc with rfl | rfl <;> simp only [badIndex] at h <;> split_ifs at h <;> omega

theorem loadEntry_completes {s : State} (h : Started 0x10 s) (hgood : badIndex s .loadEntry = none) :
    ∃ t, exec .loadEntry s = .next t ∧ Completes .ok Row.zero [.entries] s t ∧
      t.tr.entries = Table.set builtInEntry s.tr.entries (entryKey (argNat s 0) (argNat s 1))
        (freshEntry (s.mb.work.getD 3 0 ++ s.mb.work.getD 2 0)) := by
  refine ⟨_, exec_started .loadEntry h, ?_⟩
  have hbody : loadEntryBody (samplePins s) = _ := withChecks_ok (checks_pass hgood)
  rw [hbody]
  refine ⟨completes_of_frame h (setEntries_frame _ _), ?_⟩
  rw [argNat_eq s 0 (by decide), argNat_eq s 1 (by decide), work_getD s 2, work_getD s 3]
  simp

theorem readEntry_completes {s : State} (h : Started 0x11 s) (hgood : badIndex s .readEntry = none) :
    ∃ t, exec .readEntry s = .next t ∧
      (let e := entryAt s (argNat s 0) (argNat s 1)
       let out := twoBytes (lowByte e.value) (highByte e.value)
       if parityGood e then Completes .ok out [] s t
       else Completes .parity out [.fault] s t ∧
         t.fault = recordAfter ⟨.tableParity, .translator, s.mb.work.getD 0 0, s.mb.work.getD 1 0⟩ s.fault) := by
  refine ⟨_, exec_started .readEntry h, ?_⟩
  have hbody : readEntryBody (samplePins s) = _ := withChecks_ok (checks_pass hgood)
  have hentry : entryAt (samplePins s) (samplePins s).mb.work[0].toNat (samplePins s).mb.work[1].toNat =
      entryAt s (argNat s 0) (argNat s 1) := by
    rw [argNat_eq s 0 (by decide), argNat_eq s 1 (by decide), samplePins_eq]
    rfl
  rw [hbody]
  simp only [hentry, row_set_twoBytes]
  split
  · exact completes_of_frame h (Frame.refl [] _)
  · obtain ⟨hcompletes, hfault⟩ := completes_capture_of_frame (r := .parity) (parts := [])
      (out := twoBytes (lowByte (entryAt s (argNat s 0) (argNat s 1)).value)
        (highByte (entryAt s (argNat s 0) (argNat s 1)).value))
      ⟨.tableParity, .translator, (samplePins s).mb.work[0], (samplePins s).mb.work[1]⟩ h (Frame.refl [] (samplePins s))
    refine ⟨hcompletes, ?_⟩
    rw [hfault, work_getD s 0, work_getD s 1]
    simp

/-- Settles O14: the entry at the address named is written with fresh parity, and read with its parity check. -/
theorem entryCommandsWriteAndReadOneEntry : Obligations.EntryCommandsWriteAndReadOneEntry := by
  refine ⟨fun s htables h hgood => ?_, fun s h hgood => ?_⟩
  · obtain ⟨t, hexec, hcompletes, hentries⟩ := loadEntry_completes h hgood
    obtain ⟨-, hcolumn⟩ := entryAddress (.inl rfl) hgood
    obtain ⟨-, -, -, hwf⟩ := htables
    have hread (p c : Nat) : entryAt t p c = if entryKey p c = entryKey (argNat s 0) (argNat s 1)
        then freshEntry (s.mb.work.getD 3 0 ++ s.mb.work.getD 2 0) else entryAt s p c := by
      rw [entryAt, hentries, Table.get_set_wf hwf]
      rfl
    refine ⟨t, hexec, hcompletes, ?_, ?_, fun p c hc hne => ?_⟩
    · rw [hread, if_pos rfl]
      rfl
    · rw [hread, if_pos rfl]
      exact parityGood_freshEntry _
    · rw [hread, if_neg]
      intro hkey
      obtain ⟨hp, hcol⟩ := entryKey_inj hc hcolumn hkey
      exact hne (by rw [hp, hcol])
  · obtain ⟨t, hexec, hends⟩ := readEntry_completes h hgood
    refine ⟨t, hexec, ?_⟩
    simp only [← parityGood_iff]
    exact hends

/-! ### SET-CLASS, READ-CLASS and RESTORE-LAYOUT (R65, R66) -/

theorem classCode_classOfCode {code : Byte} (h : code.toNat ≤ 13) (digit : Byte) :
    classCode (classOfCode code digit) = code := by
  have hcode : code = BitVec.ofNat 8 code.toNat := by simp
  unfold classOfCode
  split <;> rename_i hval
  all_goals try (rw [hcode, hval]; rfl)
  simp only [imp_false] at *
  have h13 : code.toNat = 13 := by omega
  rw [hcode, h13]
  rfl

theorem classDigit_classOfCode {code digit : Byte} (h : digitGood code digit = true) :
    classDigit (classOfCode code digit) = digit := by
  rw [digitGood_iff] at h
  have hdigit : digit = BitVec.ofNat 8 digit.toNat := by simp
  by_cases hkeypad : code.toNat = 2
  · have hclass : classOfCode code digit =
        .keypad (if h : digit.toNat < 10 then some ⟨digit.toNat, h⟩ else none) := by
      unfold classOfCode
      rw [hkeypad]
      rfl
    rw [hclass]
    by_cases hlt : digit.toNat < 10
    · rw [dif_pos hlt, classDigit, byteOf, ← hdigit]
    · rw [dif_neg hlt, classDigit]
      · have h255 : digit.toNat = 255 := by omega
        rw [hdigit, h255]
        rfl
      · simp
  · have hff : digit = 0xFF := by
      have h255 : digit.toNat = 255 := by omega
      rw [hdigit, h255]
      rfl
    rw [hff]
    unfold classOfCode
    split <;> rfl

theorem classArguments {s : State} (h : badIndex s .setClass = none) :
    argNat s 0 ≤ 127 ∧ argNat s 1 ≤ 13 ∧ digitGood (s.mb.work.getD 1 0) (s.mb.work.getD 2 0) = true := by
  rw [digitGood_iff]
  show argNat s 0 ≤ 127 ∧ argNat s 1 ≤ 13 ∧ (argNat s 2 = 255 ∨ argNat s 1 = 2 ∧ argNat s 2 ≤ 9)
  simp only [badIndex] at h
  split_ifs at h
  omega

theorem setClass_completes {s : State} (h : Started 0x12 s) (hgood : badIndex s .setClass = none) :
    ∃ t, exec .setClass s = .next t ∧ Completes .ok Row.zero [.classes] s t ∧
      t.tr.classes = Table.set builtInClass s.tr.classes (argNat s 0)
        (classOfCode (s.mb.work.getD 1 0) (s.mb.work.getD 2 0)) := by
  refine ⟨_, exec_started .setClass h, ?_⟩
  have hbody : setClassBody (samplePins s) = _ := withChecks_ok (checks_pass hgood)
  rw [hbody]
  refine ⟨completes_of_frame h (setClasses_frame _ _), ?_⟩
  rw [argNat_eq s 0 (by decide), work_getD s 1, work_getD s 2]
  simp

theorem readClass_completes {s : State} {p : Position} (h : Started 0x13 s) (hp : argNat s 0 = p.val) :
    ∃ t, exec .readClass s = .next t ∧
      Completes .ok (twoBytes (classCode (classOf s p)) (classDigit (classOf s p))) [] s t := by
  have hgood : badIndex s .readClass = none := by
    have := p.isLt
    simp only [badIndex]
    rw [if_neg (by omega)]
  refine ⟨_, exec_started .readClass h, ?_⟩
  have hbody : readClassBody (samplePins s) = _ := withChecks_ok (checks_pass hgood)
  rw [hbody]
  simp only [row_set_twoBytes, samplePins_tr, samplePins_mb]
  rw [← argNat_eq s 0 (by decide), hp]
  exact completes_of_frame h (Frame.refl [] _)

theorem builtInEntry_value (p c : Nat) (hc : c ≤ 4) : (builtInEntry (entryKey p c)).value =
    if c = 4 then 0x8000#16 else BitVec.ofNat 16 ((c + 1) * 256 + p) := by
  have hcolumn : (p * 5 + c) % 5 = c := by omega
  have hposition : (p * 5 + c) / 5 = p := by omega
  simp only [builtInEntry, entryKey, hcolumn, hposition, freshEntry]

theorem restoreLayout_completes {s : State} (h : Started 0x14 s) :
    ∃ t, exec .restoreLayout s = .next t ∧ Completes .ok Row.zero [.classes, .entries] s t ∧
      t.tr.classes = [] ∧ t.tr.entries = [] := by
  refine ⟨_, exec_started .restoreLayout h, completes_of_frame h (restoreLayout_frame _), ?_⟩
  simp [restoreLayout]

/-- Settles O15: class codes and digits survive the way into the table and back, and the empty tables are the built-in
layout. -/
theorem classCommandsAndTheBuiltInLayout : Obligations.ClassCommandsAndTheBuiltInLayout := by
  refine ⟨fun s htables h hgood => ?_, fun s p => readClass_completes, fun s h => ?_⟩
  · obtain ⟨t, hexec, hcompletes, hclasses⟩ := setClass_completes h hgood
    obtain ⟨-, hcode, hdigit⟩ := classArguments hgood
    obtain ⟨-, -, hwf, -⟩ := htables
    have hread (p : Position) : classOf t p = if p.val = argNat s 0
        then classOfCode (s.mb.work.getD 1 0) (s.mb.work.getD 2 0) else classOf s p := by
      rw [classOf, hclasses, Table.get_set_wf hwf]
      rfl
    refine ⟨t, hexec, hcompletes, fun p => ⟨fun hp => ?_, fun hp => by rw [hread, if_neg hp]⟩⟩
    rw [hread, if_pos hp]
    exact ⟨classCode_classOfCode hcode _, classDigit_classOfCode hdigit⟩
  · obtain ⟨t, hexec, hcompletes, hclasses, hentries⟩ := restoreLayout_completes h
    have hentry (p : Position) (c : Nat) : entryAt t p.val c = builtInEntry (entryKey p.val c) := by
      rw [entryAt, hentries]
      rfl
    refine ⟨t, hexec, hcompletes, fun p => ⟨by rw [classOf, hclasses]; rfl, fun c hc => ?_, ?_, fun c hc => ?_⟩⟩
    · have := p.isLt
      rw [hentry, builtInEntry_value _ _ (by omega), if_neg (by omega), BitVec.toNat_ofNat]
      omega
    · rw [hentry, builtInEntry_value _ _ (by omega), if_pos rfl]
      rfl
    · rw [hentry]
      exact parityGood_freshEntry _

end Sys2Proof.Machine
end

section
-- One lemma at a time: elaborated side by side they ask for more threads than the memory limit of the check leaves.
set_option Elab.async false
/-!
PROOF. Mailbox commands on chords, HELD, the routes, the queue, the clock and the watchdog.
-/

namespace Sys2Proof.Machine

/-! ### SET-CHORD and READ-CHORD (R67) -/

/-- The requirements come back from a chord entry as they were written. -/
theorem requirementsByte_chordOf {r : Byte} (h : r.toNat ≤ 7) (p a : Byte) (e : Bool) :
    requirementsByte (chordOf r p a e) = r := by
  have hr : r = BitVec.ofNat 8 r.toNat := by simp
  show bitAt 0 (r.getLsbD 0) ||| bitAt 1 (r.getLsbD 1) ||| bitAt 2 (r.getLsbD 2) = r
  rw [hr]
  generalize r.toNat = n at h
  interval_cases n <;> decide

theorem actionCode_actionOf {a : Byte} (h : a.toNat ≤ 3) : actionCode (actionOf a) = a := by
  have ha : a = BitVec.ofNat 8 a.toNat := by simp
  rw [ha]
  generalize a.toNat = n at h
  interval_cases n <;> rfl

theorem positionOf_val {b : Byte} (h : b.toNat ≤ 127) : (positionOf b).val = b.toNat := by
  simp only [positionOf, Fin.ofNat]
  omega

theorem chordArguments {s : State} (h : badIndex s .setChord = none) :
    argNat s 0 ≤ 3 ∧ argNat s 1 ≤ 7 ∧ argNat s 2 ≤ 127 ∧ argNat s 3 ≤ 3 ∧ argNat s 4 ≤ 1 := by
  simp only [badIndex] at h
  split_ifs at h
  omega

/-- The chord entry that the arguments of SET-CHORD describe (R67). -/
def chordWritten (s : State) : Chord :=
  chordOf (s.mb.work.getD 1 0) (s.mb.work.getD 2 0) (s.mb.work.getD 3 0) (s.mb.work.getD 4 0 == 1)

theorem setChord_completes {s : State} (h : Started 0x15 s) (hgood : badIndex s .setChord = none) :
    ∃ t, exec .setChord s = .next t ∧ Completes .ok Row.zero [.config] s t ∧
      t.cfg = { s.cfg with chords := s.cfg.chords.setIfInBounds (argNat s 0) (chordWritten s) } := by
  refine ⟨_, exec_started .setChord h, ?_⟩
  have hbody : setChordBody (samplePins s) = _ := withChecks_ok (checks_pass hgood)
  rw [hbody]
  refine ⟨completes_of_frame h (setConfiguration_frame _ _), ?_⟩
  rw [argNat_eq s 0 (by decide), chordWritten, work_getD s 1, work_getD s 2, work_getD s 3, work_getD s 4]
  simp

theorem fieldGet_withChords (c : OpConfig) (chords : Vector Chord 4) (id : Nat) :
    fieldGet { c with chords := chords } id = fieldGet c id := by
  unfold fieldGet
  split <;> rfl

theorem readChord_completes {s : State} {i : Fin 4} (h : Started 0x16 s) (hi : argNat s 0 = i.val) :
    ∃ t, exec .readChord s = .next t ∧
      Completes .ok #v[requirementsByte s.cfg.chords[i], byteOf s.cfg.chords[i].position.val,
        actionCode s.cfg.chords[i].action, bitAt 0 s.cfg.chords[i].enabled, 0, 0, 0, 0] [] s t := by
  have hgood : badIndex s .readChord = none := by
    simp only [badIndex]
    rw [if_neg (by omega)]
  have hchord : s.cfg.chords.getD s.mb.work[0].toNat {} = s.cfg.chords[i] := by
    rw [← argNat_eq s 0 (by decide), hi]
    simp [Vector.getD]
  refine ⟨_, exec_started .readChord h, ?_⟩
  have hbody : readChordBody (samplePins s) = _ := withChecks_ok (checks_pass hgood)
  rw [hbody]
  simp only [samplePins_cfg, samplePins_mb, hchord]
  exact completes_of_frame h (Frame.refl [] _)

/-- Settles O16: the four fields survive the way into a chord entry, and the entry read is the one named. -/
theorem chordCommandsWriteAndReadOneEntry : Obligations.ChordCommandsWriteAndReadOneEntry := by
  refine ⟨fun s h hgood => ?_, fun s i => readChord_completes⟩
  obtain ⟨t, hexec, hcompletes, hcfg⟩ := setChord_completes h hgood
  obtain ⟨-, hrequirements, hposition, haction, henabled⟩ := chordArguments hgood
  refine ⟨t, hexec, hcompletes, fun id => by rw [hcfg, fieldGet_withChords], fun i => ⟨fun hi => ?_, fun hi => ?_⟩⟩
  · simp only [hcfg, Fin.getElem_fin]
    rw [Vector.getElem_setIfInBounds, if_neg (by omega)]
  · have hchord : t.cfg.chords[i] = chordWritten s := by
      simp only [hcfg, Fin.getElem_fin]
      rw [Vector.getElem_setIfInBounds, if_pos hi.symm]
    rw [hchord]
    refine ⟨requirementsByte_chordOf hrequirements _ _ _, positionOf_val hposition, actionCode_actionOf haction, ?_⟩
    show (s.mb.work.getD 4 0 == 1) = decide (argNat s 4 = 1)
    rw [Bool.eq_iff_iff, beq_iff_eq, decide_eq_true_eq, argNat, ← BitVec.toNat_inj]
    rfl

/-! ### END-HOLD (R62) -/

/-- Settles O19, in HELD and out of it. -/
theorem endHoldLeavesHeld : Obligations.EndHoldLeavesHeld := by
  intro s h
  refine ⟨_, exec_started .endHold h, ?_⟩
  unfold endHoldBody
  have hlatches : (0x0810#16 : Half) = 0x0010 ||| 0x0800 := by decide
  cases hheld : s.tr.held
  · rw [if_neg (by simp [hheld])]
    refine ⟨by simp [completeOk, hheld], by simp [completeOk], ?_⟩
    exact mainStep_of_latching_frame h.1 ((completeOk_frame _).mono (by decide)) (by simp [completeOk])
  · rw [if_pos (by simp [hheld])]
    refine ⟨by simp [completeOk, leaveHeld], by simp [completeOk, leaveHeld], ?_⟩
    exact mainStep_of_latching_frame h.1 ((leaveHeld_frame _).trans (completeOk_frame _))
      (by simp [completeOk, leaveHeld, hlatches, BitVec.or_assoc])

/-! ### SET-ROUTE and READ-ROUTE (R95, R96) -/

theorem routeArguments {s : State} (h : badIndex s .setRoute = none) : argNat s 0 ≤ 12 ∧ argNat s 1 ≤ 15 := by
  simp only [badIndex] at h
  split_ifs at h
  omega

theorem setRoute_completes {s : State} (h : Started 0x30 s) (hgood : badIndex s .setRoute = none) :
    ∃ t, exec .setRoute s = .next t ∧ Completes .ok Row.zero [.routes] s t ∧
      t.lv.routes = s.lv.routes.setIfInBounds (argNat s 0) ((s.mb.work.getD 1 0).setWidth 4) := by
  refine ⟨_, exec_started .setRoute h, ?_⟩
  have hbody : setRouteBody (samplePins s) = _ := withChecks_ok (checks_pass hgood)
  rw [hbody]
  refine ⟨completes_of_frame h (setRoutes_frame _ _), ?_⟩
  rw [argNat_eq s 0 (by decide), work_getD s 1]
  simp [completeOk]

theorem readRoute_completes {s : State} {n : Fin 13} (h : Started 0x31 s) (hn : argNat s 0 = n.val) :
    ∃ t, exec .readRoute s = .next t ∧ Completes .ok (oneByte (byteOf s.lv.routes[n].toNat)) [] s t := by
  have hgood : badIndex s .readRoute = none := by
    simp only [badIndex]
    rw [if_neg (by omega)]
  have hroute : (s.lv.routes.getD s.mb.work[0].toNat 15#4).setWidth 8 = byteOf s.lv.routes[n].toNat := by
    rw [← argNat_eq s 0 (by decide), hn]
    apply BitVec.eq_of_toNat_eq
    simp [Vector.getD, byteOf]
  refine ⟨_, exec_started .readRoute h, ?_⟩
  have hbody : readRouteBody (samplePins s) = _ := withChecks_ok (checks_pass hgood)
  rw [hbody]
  simp only [samplePins_lv, samplePins_mb, hroute, row_set_oneByte]
  exact completes_of_frame h (Frame.refl [] _)

/-- Settles O33: one route is set, one route is read. -/
theorem routeCommandsWriteAndReadOneRoute : Obligations.RouteCommandsWriteAndReadOneRoute := by
  refine ⟨fun s h hgood => ?_, fun s h => ⟨fun hbad => ?_, fun n => readRoute_completes h⟩⟩
  · obtain ⟨t, hexec, hcompletes, hroutes⟩ := setRoute_completes h hgood
    obtain ⟨-, hlevel⟩ := routeArguments hgood
    refine ⟨t, hexec, hcompletes, fun n => ?_⟩
    simp only [hroutes, Fin.getElem_fin]
    rw [Vector.getElem_setIfInBounds]
    by_cases hn : argNat s 0 = n.val
    · rw [if_pos hn, if_pos hn.symm, BitVec.toNat_setWidth, ← argNat]
      omega
    · rw [if_neg hn, if_neg (fun e => hn e.symm)]
  · exact rejects_of_badIndex (by simp [CommandCode, commandTable]) h (by simp [badIndex, hbad])

/-! ### INSERT and FLUSH (R80, R81) -/

/-- The record that INSERT forms (R80). -/
def hostRecord (s : State) : QRecord :=
  { token := s.mb.work.getD 1 0 ++ s.mb.work.getD 0 0, source := .host, position := none, mods := none }

theorem insert_completes {s : State} (h : Started 0x20 s) (hroom : s.tq.records.length < 32) :
    ∃ t, exec .insert s = .next t ∧ Completes .ok (oneByte (byteOf (s.tq.records.length + 1))) [.records] s t ∧
      t.tq.records = s.tq.records ++ [hostRecord s] := by
  refine ⟨_, exec_started .insert h, ?_⟩
  rw [insertBody, if_pos (by simpa [queueCount] using hroom)]
  have hcount (r : QRecord) : queueCount (appendRecord r (samplePins s)) = s.tq.records.length + 1 := by
    simp [queueCount, appendRecord]
  simp only [hcount, row_set_oneByte]
  refine ⟨completes_of_frame h (appendRecord_frame _ _), ?_⟩
  rw [hostRecord, work_getD s 1, work_getD s 0]
  simp [appendRecord]

theorem insert_full {s : State} (h : Started 0x20 s) (hfull : 32 ≤ s.tq.records.length) :
    ∃ t, exec .insert s = .next t ∧ Completes .full Row.zero [] s t := by
  refine ⟨_, exec_started .insert h, ?_⟩
  rw [insertBody, if_neg (by simpa [queueCount] using hfull)]
  exact completes_of_frame h (Frame.refl [] _)

theorem flush_completes {s : State} (h : Started 0x21 s) : ∃ t, exec .flush s = .next t ∧
    Completes .ok (oneByte (byteOf s.tq.records.length)) [.records, .repetition] s t ∧ t.tq.records = [] ∧
      t.rep = .idle := by
  refine ⟨_, exec_started .flush h, ?_⟩
  have hcount : queueCount (samplePins s) = s.tq.records.length := by simp [queueCount]
  rw [flushBody, row_set_oneByte, hcount]
  refine ⟨completes_of_frame h ((emptyQueue_frame _).trans (cancelRepeat_frame _)), ?_, ?_⟩
  · simp [cancelRepeat, emptyQueue]
  · simp [cancelRepeat, emptyQueue]

/-- Settles O28, from the two commands and the three accesses. -/
theorem queueAccessesFollowTheirRules : Obligations.QueueAccessesFollowTheirRules :=
  ⟨fun _ h => ⟨insert_completes h, insert_full h⟩, fun _ => flush_completes,
    fun _ h => ⟨tqlostRead_clears h, headSnapshot_latches h, tqtake_removes h⟩⟩

/-! ### The clock commands (R142, R143, R145, R146, R152) -/

theorem setTime_completes {s : State} (h : Started 0x40 s) (hgood : badIndex s (.setTime none) = none) :
    ∃ t, exec (.setTime none) s = .next t ∧ Completes .ok Row.zero [.calendar, .counters, .setFlags] s t ∧
      t.tk = (writeTime s).tk := by
  refine ⟨_, exec_started (.setTime none) h, ?_⟩
  have hbody : setTimeBody none (samplePins s) = completeOk (writeTime (samplePins s)) :=
    withChecksCut_ok (checks_pass hgood)
  rw [hbody]
  exact ⟨completes_of_frame h (writeTime_frame _), by simp [writeTime]⟩

theorem setDate_completes {s : State} (h : Started 0x41 s) (hgood : badIndex s (.setDate none) = none) :
    ∃ t, exec (.setDate none) s = .next t ∧ Completes .ok Row.zero [.calendar, .setFlags] s t ∧
      t.tk = (writeDate s).tk := by
  refine ⟨_, exec_started (.setDate none) h, ?_⟩
  have hbody : setDateBody none (samplePins s) = completeOk (writeDate (samplePins s)) :=
    withChecksCut_ok (checks_pass hgood)
  rw [hbody]
  exact ⟨completes_of_frame h (writeDate_frame _), by simp [writeDate]⟩

theorem setAlarmBody_ok {s : State} (hgood : badIndex s (.setAlarm none) = none) : setAlarmBody none (samplePins s) =
    if s.tk.alarm.armed then complete .armed Row.zero (samplePins s) else completeOk (writeAlarm (samplePins s)) := by
  have hbody : setAlarmBody none (samplePins s) = _ := withChecksCut_ok (checks_pass hgood)
  rw [hbody, samplePins_tk]
  rfl

theorem setAlarm_armed {s : State} (h : Started 0x43 s) (hgood : badIndex s (.setAlarm none) = none)
    (harmed : s.tk.alarm.armed = true) :
    ∃ t, exec (.setAlarm none) s = .next t ∧ Completes .armed Row.zero [] s t := by
  refine ⟨_, exec_started (.setAlarm none) h, ?_⟩
  rw [setAlarmBody_ok hgood, if_pos harmed]
  exact completes_of_frame h (Frame.refl [] _)

theorem setAlarm_disarmed {s : State} (h : Started 0x43 s) (hgood : badIndex s (.setAlarm none) = none)
    (harmed : s.tk.alarm.armed = false) :
    ∃ t, exec (.setAlarm none) s = .next t ∧ Completes .ok Row.zero [.alarm] s t ∧
      t.tk.alarm = { hour := alarmField (s.mb.work.getD 0 0), minute := alarmField (s.mb.work.getD 1 0),
                     second := alarmField (s.mb.work.getD 2 0), oneShot := s.mb.work.getD 3 0 == 1, armed := true } := by
  refine ⟨_, exec_started (.setAlarm none) h, ?_⟩
  rw [setAlarmBody_ok hgood, if_neg (by simp [harmed]), work_getD s 0, work_getD s 1, work_getD s 2, work_getD s 3]
  exact ⟨completes_of_frame h (writeAlarm_frame _), by simp [completeOk, writeAlarm]⟩

theorem clearAlarm_completes {s : State} (h : Started 0x44 s) : ∃ t, exec (.clearAlarm none) s = .next t ∧
    Completes .ok Row.zero [.alarm] s t ∧ t.tk.alarm = { s.tk.alarm with armed := false } :=
  ⟨_, exec_started (.clearAlarm none) h, completes_of_frame h (disarmAlarm_frame _),
    by simp [allOrNothing, completeOk, disarmAlarm]⟩

theorem setAdjust_completes {s : State} (h : Started 0x46 s) (hgood : badIndex s (.setAdjust none) = none) :
    ∃ t, exec (.setAdjust none) s = .next t ∧ Completes .ok (oneByte s.tk.adjust) [.adjust] s t ∧
      t.tk.adjust = s.mb.work.getD 0 0 := by
  refine ⟨_, exec_started (.setAdjust none) h, ?_⟩
  have hbody : setAdjustBody none (samplePins s) = _ := withChecksCut_ok (checks_pass hgood)
  rw [hbody, work_getD s 0]
  simp only [allOrNothing, samplePins_tk, row_set_oneByte]
  have hframe : Frame [.adjust] (samplePins s)
      { samplePins s with tk := { (samplePins s).tk with adjust := (samplePins s).mb.work[0] } } := setAdjustValue_frame _ _
  rw [samplePins_tk] at hframe
  exact ⟨completes_of_frame h hframe, by simp⟩

theorem readTime_completes {s : State} (h : Started 0x42 s) : ∃ t, exec .readTime s = .next t ∧
    Completes (if clockValid s then .ok else .notValid) (timeRow s.tk) [] s t := by
  have hvalid : clockValid (samplePins s) = clockValid s := by simp [clockValid]
  refine ⟨_, exec_started .readTime h, ?_⟩
  rw [readTimeBody, hvalid, samplePins_tk]
  exact completes_of_frame h (Frame.refl [] _)

theorem alarmField_eq (s : State) (i : Nat) : alarmField (s.mb.work.getD i 0) =
    if argNat s i = 255 then none else some (argNat s i) := by
  have h255 : s.mb.work.getD i 0 = 0xFF ↔ argNat s i = 255 := by
    rw [argNat, ← BitVec.toNat_inj]
    rfl
  simp only [alarmField, h255]
  rfl

theorem byte_eq_one_iff (s : State) (i : Nat) : (s.mb.work.getD i 0 == 1) = decide (argNat s i = 1) := by
  rw [Bool.eq_iff_iff, beq_iff_eq, decide_eq_true_eq, argNat, ← BitVec.toNat_inj]
  rfl

/-- Settles O39, command by command. -/
theorem clockCommandsWriteAndReadTheClock : Obligations.ClockCommandsWriteAndReadTheClock := by
  refine ⟨fun s h hgood => ?_, fun s h hgood => ?_, fun s h hgood => ⟨setAlarm_armed h hgood, fun harmed => ?_⟩,
    fun s => clearAlarm_completes, fun s => setAdjust_completes, fun s h => ?_⟩
  · obtain ⟨t, hexec, hcompletes, htk⟩ := setTime_completes h hgood
    refine ⟨t, hexec, hcompletes, ?_⟩
    rw [htk, argNat_eq s 0 (by decide), argNat_eq s 1 (by decide), argNat_eq s 2 (by decide)]
    exact ⟨rfl, rfl, rfl, rfl, rfl, rfl, rfl⟩
  · obtain ⟨t, hexec, hcompletes, htk⟩ := setDate_completes h hgood
    refine ⟨t, hexec, hcompletes, ?_⟩
    rw [htk, argNat_eq s 0 (by decide), argNat_eq s 1 (by decide), argNat_eq s 2 (by decide), argNat_eq s 3 (by decide)]
    exact ⟨rfl, rfl, rfl⟩
  · obtain ⟨t, hexec, hcompletes, halarm⟩ := setAlarm_disarmed h hgood harmed
    exact ⟨t, hexec, hcompletes, by rw [halarm, alarmField_eq, alarmField_eq, alarmField_eq, byte_eq_one_iff]⟩
  · obtain ⟨t, hexec, hcompletes⟩ := readTime_completes h
    refine ⟨t, hexec, ?_⟩
    simpa only [clockValid, Bool.and_eq_true, timeRow] using hcompletes

/-! ### WATCHDOG-SET (R171) -/

/-- The watchdog that WATCHDOG-SET leaves (R171). -/
def watchdogAfterSet (w : Watchdog) (code : BitVec 2) (enable : Bool) : Watchdog :=
  if w.state = .disabled then
    if enable then { state := .armed, count := 0, active := code, pending := code } else { w with pending := code }
  else if enable then { w with pending := code } else w

/-- What WATCHDOG-SET answers (R171). -/
theorem watchdogSetAct_eq (s : State) : watchdogSetAct s =
    (let w := watchdogAfterSet s.wd (s.mb.work[0].setWidth 2) (s.mb.work[1] == 1)
     complete (if s.wd.state ≠ .disabled ∧ (s.mb.work[1] == 1) = false then .locked else .ok)
       (twoBytes (watchdogCode w.state) (w.pending.setWidth 8)) { s with wd := w }) := by
  simp only [watchdogSetAct, watchdogAfterSet, row_set_twoBytes]
  generalize (s.mb.work[1] == 1) = enable
  cases enable <;> by_cases hstate : s.wd.state = .disabled <;> simp [hstate]

theorem watchdogArguments {s : State} (h : badIndex s .watchdogSet = none) : argNat s 0 ≤ 3 ∧ argNat s 1 ≤ 1 := by
  simp only [badIndex] at h
  split_ifs at h
  omega

theorem watchdogSet_completes {s : State} (h : Started 0x70 s) (hgood : badIndex s .watchdogSet = none) :
    ∃ t, exec .watchdogSet s = .next t ∧
      Completes (if s.wd.state ≠ .disabled ∧ decide (argNat s 1 = 1) = false then .locked else .ok)
        (twoBytes (watchdogCode t.wd.state) (byteOf t.wd.pending.toNat)) [.watchdog] s t ∧
      t.wd = watchdogAfterSet s.wd (BitVec.ofNat 2 (argNat s 0)) (decide (argNat s 1 = 1)) := by
  have hbody : watchdogSetBody (samplePins s) = watchdogSetAct (samplePins s) := withChecks_ok (checks_pass hgood)
  have hperiod : s.mb.work[0].setWidth 2 = BitVec.ofNat 2 (argNat s 0) := by
    rw [argNat_eq s 0 (by decide)]
    apply BitVec.eq_of_toNat_eq
    simp
  have henable : (s.mb.work[1] == 1) = decide (argNat s 1 = 1) := by rw [← byte_eq_one_iff, work_getD s 1]
  have hbyte (b : BitVec 2) : b.setWidth 8 = byteOf b.toNat := by
    apply BitVec.eq_of_toNat_eq
    simp [byteOf]
  refine ⟨_, exec_started .watchdogSet h, ?_⟩
  rw [hbody, watchdogSetAct_eq]
  simp only [samplePins_mb, samplePins_wd, hperiod, hbyte, henable]
  refine ⟨?_, by simp⟩
  simp only [endStep_wd, complete_wd]
  have hframe := setWatchdog_frame (watchdogAfterSet s.wd (BitVec.ofNat 2 (argNat s 0)) (decide (argNat s 1 = 1)))
    (samplePins s)
  rw [samplePins_mb] at hframe
  exact completes_of_frame h hframe

/-- Settles O48: `watchdogAfterSet` is R171's table, and a kick restarts what is enabled. -/
theorem watchdogSetAndKick : Obligations.WatchdogSetAndKick := by
  refine ⟨fun s h hgood => ?_, fun d s h => wdkick_restarts h d⟩
  obtain ⟨-, henable⟩ := watchdogArguments hgood
  obtain ⟨t, hexec, hcompletes, hwd⟩ := watchdogSet_completes h hgood
  have hlocked : (s.wd.state ≠ .disabled ∧ decide (argNat s 1 = 1) = false) ↔ (s.wd.state ≠ .disabled ∧ argNat s 1 = 0) := by
    rw [decide_eq_false_iff_not]
    constructor <;> rintro ⟨hstate, hvalue⟩ <;> exact ⟨hstate, by omega⟩
  simp only [hlocked] at hcompletes
  refine ⟨t, hexec, hcompletes, ?_⟩
  rw [hwd, watchdogAfterSet]
  by_cases hstate : s.wd.state = .disabled <;> by_cases hone : argNat s 1 = 1 <;> simp [hstate, hone]
  omega

end Sys2Proof.Machine
end

section
-- One lemma at a time: elaborated side by side they ask for more threads than the memory limit of the check leaves.
set_option Elab.async false
/-!
PROOF. The backup memory (Chapter 9): what a writer leaves at each address, and the commands that read and write the memory.
-/

namespace Sys2Proof.Machine

/-! ### Writers -/

theorem memWrites_cons (m : Memory) (w : Nat × Byte) (ws : List (Nat × Byte)) :
    memWrites m (w :: ws) = memWrites (memWrite m w.1 w.2) ws := rfl

/-- A run of writes to different addresses leaves each byte at its address. -/
theorem memByte_memWrites_of_mem {m : Memory} (h : Memory.wf m = true) {ws : List (Nat × Byte)} (hlt : ∀ w ∈ ws, w.1 < 64)
    (hnodup : (ws.map Prod.fst).Nodup) {a : Nat} {b : Byte} (hmem : (a, b) ∈ ws) : memByte (memWrites m ws) a = b := by
  induction ws generalizing m with
  | nil => cases hmem
  | cons w rest ih =>
    rw [List.map_cons, List.nodup_cons] at hnodup
    obtain ⟨hnew, hrest⟩ := hnodup
    have hwf : Memory.wf (memWrite m w.1 w.2) = true := memWrite_wf h (hlt w List.mem_cons_self) w.2
    have hltRest : ∀ x ∈ rest, x.1 < 64 := fun x hx => hlt x (List.mem_cons_of_mem _ hx)
    rw [memWrites_cons]
    obtain rfl | hmem := List.mem_cons.1 hmem
    · rw [memByte_memWrites_of_not_mem hwf hltRest (fun x hx hxa => hnew (List.mem_map.2 ⟨x, hx, hxa⟩)),
        memByte_memWrite h, if_pos rfl]
    · exact ih hwf hltRest hrest hmem

/-- What a complete writer leaves: its bytes, the checksum, and every other byte as it was (R158). -/
theorem memByte_withChecksum {m : Memory} (h : Memory.wf m = true) {ws : List (Nat × Byte)} (hlt : ∀ w ∈ ws, w.1 < 63)
    (hnodup : (ws.map Prod.fst).Nodup) :
    (∀ a b, (a, b) ∈ ws → memByte (memWrites m (withChecksum m ws)) a = b) ∧
    ∀ a, a ≠ 63 → (∀ w ∈ ws, w.1 ≠ a) → memByte (memWrites m (withChecksum m ws)) a = memByte m a := by
  have hlt64 : ∀ w ∈ ws, w.1 < 64 := fun w hw => (hlt w hw).trans (by decide)
  have hwf : Memory.wf (memWrites m ws) = true := memWrites_wf h hlt64
  have hfix (a : Nat) (ha : a ≠ 63) : memByte (memWrites m (withChecksum m ws)) a = memByte (memWrites m ws) a := by
    rw [withChecksum, memWrites_append, memWrites_cons]
    show memByte (memWrite _ 63 _) a = _
    rw [memByte_memWrite hwf, if_neg ha]
  refine ⟨fun a b hmem => ?_, fun a ha hnot => ?_⟩
  · have ha := hlt _ hmem
    rw [hfix a (by omega), memByte_memWrites_of_mem h hlt64 hnodup hmem]
  · rw [hfix a ha, memByte_memWrites_of_not_mem h hlt64 hnot]

/-- An uncut writer completes and leaves the memory consistent (R158, R164 to R166). -/
theorem writeBackup_completes {code : Byte} {s : State} {bytes : List (Nat × Byte)} (h : Started code s) :
    Completes .ok Row.zero [.memory] s (endStep (writeBackup none bytes (samplePins s))) ∧
      (endStep (writeBackup none bytes (samplePins s))).mem = memWrites s.mem (withChecksum s.mem bytes) := by
  refine ⟨completes_of_frame h (setMem_frame _ _), ?_⟩
  simp [writeBackup, completeOk]

/-! ### BACKUP-READ, READ-RESET-RECORD, BACKUP-WRITE and CLEAR-RESET-RECORD (R163, R164, R166) -/

theorem backupRead_completes {s : State} (h : Started 0x50 s) (hgood : badIndex s .backupRead = none) :
    ∃ t, exec .backupRead s = .next t ∧ Completes .ok
      (Vector.ofFn (fun i : Fin 8 => if i.val < argNat s 1 then memByte s.mem (argNat s 0 + i.val) else 0)) [] s t := by
  refine ⟨_, exec_started .backupRead h, ?_⟩
  have hbody : backupReadBody (samplePins s) = _ := withChecks_ok (checks_pass hgood)
  rw [hbody, argNat_eq s 0 (by decide), argNat_eq s 1 (by decide)]
  simp only [samplePins_mb, samplePins_mem]
  exact completes_of_frame h (Frame.refl [] _)

theorem readResetRecord_completes {s : State} (h : Started 0x52 s) : ∃ t, exec .readResetRecord s = .next t ∧
    Completes .ok #v[memByte s.mem 58, memByte s.mem 59, memByte s.mem 60, memByte s.mem 61, memByte s.mem 62, 0, 0, 0]
      [] s t := by
  refine ⟨_, exec_started .readResetRecord h, ?_⟩
  rw [samplePins_mem]
  exact completes_of_frame h (Frame.refl [] _)

theorem backupWriteArguments {s : State} (h : badIndex s (.backupWrite none) = none) :
    1 ≤ argNat s 1 ∧ argNat s 1 ≤ 6 ∧ argNat s 0 + argNat s 1 ≤ 34 := by
  simp only [badIndex] at h
  split_ifs at h
  omega

theorem mem_hostBytes {s : State} {i : Nat} (hi : i < argNat s 1) :
    (argNat s 0 + i, s.mb.work.getD (i + 2) 0) ∈ hostBytes s.mb.work := by
  rw [argNat_eq s 0 (by decide)]
  rw [argNat_eq s 1 (by decide)] at hi
  exact List.mem_map.2 ⟨i, List.mem_range.2 hi, rfl⟩

theorem hostBytes_addresses (s : State) :
    (hostBytes s.mb.work).map Prod.fst = (List.range (argNat s 1)).map (fun i => argNat s 0 + i) := by
  rw [argNat_eq s 0 (by decide), argNat_eq s 1 (by decide), hostBytes, List.map_map]
  rfl

theorem nodup_shifted (n k : Nat) : ((List.range n).map (fun i => k + i)).Nodup :=
  List.Nodup.map (fun _ _ h => Nat.add_left_cancel h) List.nodup_range

/-- BACKUP-WRITE writes its bytes in the host area and fixes the checksum (R164). -/
theorem backupWrite_writes {s : State} (htables : TablesCanonical s) (h : Started 0x51 s)
    (hgood : badIndex s (.backupWrite none) = none) :
    ∃ t, exec (.backupWrite none) s = .next t ∧ Completes .ok Row.zero [.memory] s t ∧ memConsistent t.mem = true ∧
      (∀ i, i < argNat s 1 → memByte t.mem (argNat s 0 + i) = s.mb.work.getD (i + 2) 0) ∧
      OnlyWrites (63 :: (List.range (argNat s 1)).map (fun i => argNat s 0 + i)) s t := by
  obtain ⟨hmem, -⟩ := htables
  obtain ⟨-, -, hend⟩ := backupWriteArguments hgood
  have hnodup : ((hostBytes s.mb.work).map Prod.fst).Nodup := by
    rw [hostBytes_addresses]
    exact nodup_shifted _ _
  have hlt : ∀ w ∈ hostBytes s.mb.work, w.1 < 63 := by
    intro w hw
    have haddress : w.1 ∈ (List.range (argNat s 1)).map (fun i => argNat s 0 + i) := by
      rw [← hostBytes_addresses]
      exact List.mem_map_of_mem hw
    obtain ⟨i, hi, hwi⟩ := List.mem_map.1 haddress
    rw [List.mem_range] at hi
    omega
  obtain ⟨hwritten, hother⟩ := memByte_withChecksum hmem hlt hnodup
  refine ⟨_, exec_started (.backupWrite none) h, ?_⟩
  have hbody : backupWriteBody none (samplePins s) = writeBackup none (hostBytes (samplePins s).mb.work) (samplePins s) :=
    withChecksCut_ok (checks_pass hgood)
  obtain ⟨hcompletes, hleft⟩ := writeBackup_completes (bytes := hostBytes s.mb.work) h
  rw [hbody, samplePins_mb]
  refine ⟨hcompletes, ?_, fun i hi => ?_, fun a ha => ?_⟩ <;> rw [hleft]
  · exact memConsistent_withChecksum hmem (fun w hw => (hlt w hw).trans (by decide))
  · exact hwritten _ _ (mem_hostBytes hi)
  · rw [List.mem_cons, not_or, ← hostBytes_addresses] at ha
    exact hother a ha.1 (fun w hw hwa => ha.2 (hwa ▸ List.mem_map_of_mem hw))

/-- CLEAR-RESET-RECORD writes zeros in the counts and fixes the checksum (R166). -/
theorem clearResetRecord_writes {s : State} (htables : TablesCanonical s) (h : Started 0x53 s) :
    ∃ t, exec (.clearResetRecord none) s = .next t ∧ Completes .ok Row.zero [.memory] s t ∧ memConsistent t.mem = true ∧
      memByte t.mem 60 = 0 ∧ memByte t.mem 61 = 0 ∧ memByte t.mem 62 = 0 ∧ OnlyWrites [60, 61, 62, 63] s t := by
  obtain ⟨hmem, -⟩ := htables
  obtain ⟨hwritten, hother⟩ := memByte_withChecksum (ws := [(60, 0), (61, 0), (62, 0)]) hmem (by decide) (by decide)
  obtain ⟨hcompletes, hleft⟩ := writeBackup_completes (bytes := [(60, 0), (61, 0), (62, 0)]) h
  refine ⟨_, exec_started (.clearResetRecord none) h, hcompletes, ?_, ?_, ?_, ?_, fun a ha => ?_⟩ <;> rw [hleft]
  · exact memConsistent_withChecksum hmem (by decide)
  · exact hwritten 60 0 (by decide)
  · exact hwritten 61 0 (by decide)
  · exact hwritten 62 0 (by decide)
  · simp only [List.mem_cons, List.not_mem_nil, or_false, not_or] at ha
    refine hother a ha.2.2.2 (fun w hw => ?_)
    simp only [List.mem_cons, List.not_mem_nil, or_false] at hw
    rcases hw with rfl | rfl | rfl <;> omega

/-- Settles O45, command by command. -/
theorem backupCommandsReadAndWriteTheMemory : Obligations.BackupCommandsReadAndWriteTheMemory := by
  refine ⟨fun s h hgood => ?_, fun s => readResetRecord_completes, fun s => backupWrite_writes,
    fun s => clearResetRecord_writes⟩
  obtain ⟨t, hexec, hcompletes⟩ := backupRead_completes h hgood
  have hres := congrArg Mailbox.res hcompletes.1
  refine ⟨t, hexec, by rwa [hres], fun i => ?_⟩
  simp only [hres, Fin.getElem_fin, Vector.getElem_ofFn]

/-! ### SAVE-CONFIG and LOAD-CONFIG (R159, R161, R165) -/

theorem imageBytes_addresses (c : OpConfig) : (imageBytes c).map Prod.fst = (List.range 24).map (fun i => 34 + i) := by
  rw [imageBytes, List.map_map]
  rfl

theorem mem_imageBytes (c : OpConfig) {i : Nat} (hi : i < 24) : (34 + i, imageByte c i) ∈ imageBytes c :=
  List.mem_map.2 ⟨i, List.mem_range.2 hi, rfl⟩

/-- SAVE-CONFIG leaves the image of the configuration, a consistent memory and every other byte (R165). -/
theorem saveConfig_writes {s : State} (htables : TablesCanonical s) (h : Started 0x62 s) :
    ∃ t, exec (.saveConfig none) s = .next t ∧ Completes .ok Row.zero [.memory] s t ∧ memConsistent t.mem = true ∧
      (∀ i, i < 24 → memByte t.mem (34 + i) = imageByte s.cfg i) ∧
      ∀ a, a < 34 ∨ (58 ≤ a ∧ a ≠ 63) → memByte t.mem a = memByte s.mem a := by
  obtain ⟨hmem, -⟩ := htables
  have hnodup : ((imageBytes s.cfg).map Prod.fst).Nodup := by
    rw [imageBytes_addresses]
    exact nodup_shifted _ _
  have haddress : ∀ w ∈ imageBytes s.cfg, 34 ≤ w.1 ∧ w.1 < 58 := by
    intro w hw
    have hw1 : w.1 ∈ (List.range 24).map (fun i => 34 + i) := by
      rw [← imageBytes_addresses s.cfg]
      exact List.mem_map_of_mem hw
    obtain ⟨i, hi, hwi⟩ := List.mem_map.1 hw1
    rw [List.mem_range] at hi
    omega
  obtain ⟨hwritten, hother⟩ := memByte_withChecksum hmem (fun w hw => (haddress w hw).2.trans (by decide)) hnodup
  obtain ⟨hcompletes, hleft⟩ := writeBackup_completes (bytes := imageBytes s.cfg) h
  refine ⟨_, exec_started (.saveConfig none) h, ?_⟩
  rw [samplePins_cfg]
  refine ⟨hcompletes, ?_, fun i hi => ?_, fun a ha => ?_⟩ <;> rw [hleft]
  · exact memConsistent_withChecksum hmem (imageBytes_lt s.cfg)
  · exact hwritten _ _ (mem_imageBytes s.cfg hi)
  · refine hother a (by omega) (fun w hw hwa => ?_)
    obtain ⟨hlow, hhigh⟩ := haddress w hw
    omega

/-- The image byte of a field (R159). -/
theorem imageByte_field (c : OpConfig) {id : Nat} (h1 : 1 ≤ id) (h12 : id ≤ 12) : imageByte c (id - 1) = fieldGet c id := by
  rw [imageByte, if_pos (by omega), Nat.sub_add_cancel h1]

theorem chords_getD (c : OpConfig) (i : Fin 4) : c.chords.getD i.val {} = c.chords[i] := by
  simp [Vector.getD]

/-- The three image bytes of a chord entry (R159). -/
theorem imageByte_chord (c : OpConfig) (i : Fin 4) :
    imageByte c (12 + 3 * i.val) = requirementsByte c.chords[i] ∧
    imageByte c (13 + 3 * i.val) = byteOf c.chords[i].position.val ∧
    imageByte c (14 + 3 * i.val) = bitAt 7 c.chords[i].enabled ||| actionCode c.chords[i].action := by
  have hplace (k : Nat) (hk : k < 3) : (12 + k + 3 * i.val - 12) / 3 = i.val ∧ (12 + k + 3 * i.val - 12) % 3 = k := by omega
  have hbyte (k : Nat) : k < 3 → imageByte c (12 + k + 3 * i.val) =
      match k with
      | 0 => requirementsByte c.chords[i]
      | 1 => byteOf c.chords[i].position.val
      | _ => bitAt 7 c.chords[i].enabled ||| actionCode c.chords[i].action := by
    intro hk
    obtain ⟨hentry, hpart⟩ := hplace k hk
    rw [imageByte, if_neg (by omega), hentry, hpart, chords_getD] <;> rfl
  exact ⟨hbyte 0 (by decide), hbyte 1 (by decide), hbyte 2 (by decide)⟩

theorem enabledByte (e : Bool) (a : ChordAction) :
    bitAt 7 e ||| actionCode a = (if e then 0x80 else 0) + actionCode a := by
  cases e <;> cases a <;> decide

theorem loadConfig_completes {s : State} (h : Started 0x63 s) :
    ∃ t, exec .loadConfig s = .next t ∧ Completes .ok (twoBytes (byteOf (fieldRepairs s.mem)) (byteOf (chordRepairs s.mem)))
      [.config] s t ∧ t.cfg = loadedConfig s.mem := by
  refine ⟨_, exec_started .loadConfig h, ?_⟩
  rw [loadConfigBody, row_set_twoBytes, samplePins_mem]
  exact ⟨completes_of_frame h (loadConfig_frame _), by simp [loadConfig]⟩

theorem loadedConfig_chords (m : Memory) (i : Fin 4) : (loadedConfig m).chords[i] = loadedChord m i.val := by
  simp [loadedConfig]

/-- Settles O46: the image is written byte by byte, and each item of it is loaded or repaired. -/
theorem saveAndLoadConfigMoveTheImage : Obligations.SaveAndLoadConfigMoveTheImage := by
  refine ⟨fun s htables h => ?_, fun s h => ?_⟩
  · obtain ⟨t, hexec, hcompletes, hconsistent, himage, hother⟩ := saveConfig_writes htables h
    refine ⟨t, hexec, hcompletes, hconsistent, fun id h1 h12 => ?_, fun i => ?_, hother⟩
    · rw [← imageByte_field s.cfg h1 h12, ← himage (id - 1) (by omega)]
      congr 1
      omega
    · obtain ⟨hrequirements, hposition, haction⟩ := imageByte_chord s.cfg i
      have hi := i.isLt
      rw [← hrequirements, ← hposition, ← enabledByte, ← haction, ← himage _ (by omega), ← himage _ (by omega),
        ← himage _ (by omega)]
      refine ⟨?_, ?_, ?_⟩ <;> congr 1 <;> omega
  · obtain ⟨t, hexec, hcompletes, hcfg⟩ := loadConfig_completes h
    have hres := congrArg Mailbox.res hcompletes.1
    refine ⟨t, hexec, by rwa [hres], fun id h1 h12 => ?_, fun i => ?_, ?_⟩
    · rw [hcfg, fieldGet_loadedConfig _ h1 h12]
      rfl
    · rw [hcfg, loadedConfig_chords]
      rfl
    · have haddress (i : Nat) : 33 + (i + 1) = 34 + i := by omega
      rw [hres]
      simp only [fieldRepairs, chordRepairs, fieldByte, haddress]

/-- The configuration is its twelve fields and its chord entries. -/
theorem opConfig_ext {c d : OpConfig} (hfields : ∀ id, 1 ≤ id → id ≤ 12 → fieldGet c id = fieldGet d id)
    (hchords : ∀ i : Fin 4, c.chords[i] = d.chords[i]) : c = d := by
  have hvector : c.chords = d.chords := Vector.ext (fun i hi => hchords ⟨i, hi⟩)
  have h (id : Nat) (hid : 1 ≤ id ∧ id ≤ 12) := hfields id hid.1 hid.2
  have h1 := h 1 (by decide)
  have h2 := h 2 (by decide)
  have h3 := h 3 (by decide)
  have h4 := h 4 (by decide)
  have h5 := h 5 (by decide)
  have h6 := h 6 (by decide)
  have h7 := h 7 (by decide)
  have h8 := h 8 (by decide)
  have h9 := h 9 (by decide)
  have h10 := h 10 (by decide)
  have h11 := h 11 (by decide)
  have h12 := h 12 (by decide)
  cases c
  cases d
  simp only [fieldGet] at h1 h2 h3 h4 h5 h6 h7 h8 h9 h10 h11 h12
  simp_all

/-- The last image byte of a chord entry tells the enable bit and the action apart (R159). -/
theorem enabledByte_parts (e : Bool) (a : ChordAction) :
    (bitAt 7 e ||| actionCode a).getLsbD 7 = e ∧ actionOf (bitAt 7 e ||| actionCode a) = a ∧
    (bitAt 7 e ||| actionCode a) &&& 0x7C = 0 := by
  cases e <;> cases a <;> decide

theorem requirementsByte_parts (c : Chord) :
    (requirementsByte c).getLsbD 0 = c.shift ∧ (requirementsByte c).getLsbD 1 = c.ctrl ∧
    (requirementsByte c).getLsbD 2 = c.alt ∧ (requirementsByte c).toNat ≤ 7 := by
  unfold requirementsByte
  generalize c.shift = x
  generalize c.ctrl = y
  generalize c.alt = z
  cases x <;> cases y <;> cases z <;> decide

theorem positionOf_byteOf (p : Position) : positionOf (byteOf p.val) = p ∧ (byteOf p.val).toNat ≤ 127 := by
  have hp := p.isLt
  have hbyte : (byteOf p.val).toNat = p.val := by
    simp only [byteOf, BitVec.toNat_ofNat]
    omega
  exact ⟨Fin.ext (by rw [positionOf_val] <;> omega), by omega⟩

/-- A memory that holds the image of a configuration gives each item of it back and repairs nothing (R159, R161). -/
theorem loadedConfig_of_image {m : Memory} {c : OpConfig}
    (hrange : ∀ id, 1 ≤ id → id ≤ 12 → fieldInRange id (fieldGet c id) = true)
    (himage : ∀ i, i < 24 → memByte m (34 + i) = imageByte c i) :
    loadedConfig m = c ∧ fieldRepairs m = 0 ∧ chordRepairs m = 0 := by
  have hfield (id : Nat) (h1 : 1 ≤ id) (h12 : id ≤ 12) : fieldByte m id = fieldGet c id := by
    rw [← imageByte_field c h1 h12, ← himage (id - 1) (by omega), fieldByte]
    congr 1
    omega
  have hchord (i : Fin 4) : chordInRange m i.val = true ∧ loadedChord m i.val = c.chords[i] := by
    have hi := i.isLt
    have hbytes (k : Nat) (hk : k < 3) : memByte m (46 + k + 3 * i.val) = imageByte c (12 + k + 3 * i.val) := by
      rw [← himage _ (by omega)]
      congr 1
      omega
    obtain ⟨himage1, himage2, himage3⟩ := imageByte_chord c i
    have h1 := (hbytes 0 (by decide)).trans himage1
    have h2 := (hbytes 1 (by decide)).trans himage2
    have h3 := (hbytes 2 (by decide)).trans himage3
    obtain ⟨hshift, hctrl, halt, hrequirements⟩ := requirementsByte_parts c.chords[i]
    obtain ⟨hposition, hplace⟩ := positionOf_byteOf c.chords[i].position
    obtain ⟨henabled, haction, hrest⟩ := enabledByte_parts c.chords[i].enabled c.chords[i].action
    have hin : chordInRange m i.val = true := by
      simp only [Nat.add_zero, Nat.reduceAdd] at h1 h2 h3
      rw [chordInRange, h1, h2, h3, hrest, decide_eq_true hrequirements, decide_eq_true hplace]
      rfl
    refine ⟨hin, ?_⟩
    simp only [Nat.add_zero, Nat.reduceAdd] at h1 h2 h3
    rw [loadedChord, if_pos hin, h1, h2, h3, chordOf, hshift, hctrl, halt, hposition, henabled, haction]
  refine ⟨opConfig_ext (fun id h1 h12 => ?_) (fun i => ?_), List.countP_eq_zero.2 (fun i hi => ?_),
    List.countP_eq_zero.2 (fun i hi => ?_)⟩
  · rw [fieldGet_loadedConfig m h1 h12, loadedField, hfield id h1 h12, if_pos (hrange id h1 h12)]
  · rw [loadedConfig_chords, (hchord i).2]
  · have hi12 := List.mem_range.1 hi
    simp [hfield (i + 1) (by omega) (by omega), hrange (i + 1) (by omega) (by omega)]
  · simp [(hchord ⟨i, List.mem_range.1 hi⟩).1]

/-- Settles O47: the image that SAVE-CONFIG left is in range item by item, so the load repairs none. -/
theorem loadAfterSaveRestoresTheConfiguration : Obligations.LoadAfterSaveRestoresTheConfiguration := by
  intro s t u htables hrange hsave hexec hmem hload
  obtain ⟨t', hexec', -, -, himage, -⟩ := saveConfig_writes htables hsave
  obtain rfl : t' = t := Host.Outcome.next.inj (hexec'.symm.trans hexec)
  obtain ⟨v, hexecLoad, ⟨hmb, -⟩, hcfg⟩ := loadConfig_completes hload
  obtain ⟨hconfig, hfields, hchords⟩ :=
    loadedConfig_of_image hrange (fun i hi => (congrArg (memByte · _) hmem).trans (himage i hi))
  refine ⟨v, hexecLoad, hcfg.trans hconfig, ?_, ?_⟩
  · rw [congrArg Mailbox.res hmb, hfields, hchords]
    rfl
  · rw [congrArg Mailbox.result hmb]

end Sys2Proof.Machine
end

section
-- One lemma at a time: elaborated side by side they ask for more threads than the memory limit of the check leaves.
set_option Elab.async false
/-!
PROOF. The passing of time: what one CLK period moves, which counts make a step ready, and which ready step is taken.
-/

namespace Sys2Proof.Machine

/-! ### Frames of a CLK period -/

theorem Frame.lv_eq {parts : List Part} {s t : State} (h : Frame parts s t)
    (hparts : ∀ p ∈ [Part.latches, .routes, .enables, .soft, .switch, .stack], p ∉ parts := by decide) : t.lv = s.lv := by
  have hlatches : t.lv.latches = s.lv.latches := h.same .latches (hparts _ (by decide))
  have hroutes : t.lv.routes = s.lv.routes := h.same .routes (hparts _ (by decide))
  have henables : t.lv.enables = s.lv.enables := h.same .enables (hparts _ (by decide))
  have hsoft : t.lv.soft = s.lv.soft := h.same .soft (hparts _ (by decide))
  have hswitch : t.lv.switch = s.lv.switch := h.same .switch (hparts _ (by decide))
  have hstack : t.lv.stack = s.lv.stack := h.same .stack (hparts _ (by decide))
  obtain ⟨hnint, hA, hB⟩ := h.lines
  generalize t.lv = a at *
  generalize s.lv = b at *
  cases a
  cases b
  simp_all

theorem Frame.tk_eq {parts : List Part} {s t : State} (h : Frame parts s t)
    (hparts : ∀ p ∈ [Part.calendar, .counters, .adjust, .alarm, .setFlags, .wake], p ∉ parts := by decide) : t.tk = s.tk := by
  have hcal : t.tk.cal = s.tk.cal := h.same .calendar (hparts _ (by decide))
  obtain ⟨hsub, hprescaler, hinterval, hsecond⟩ := h.same .counters (hparts _ (by decide))
  have hadjust : t.tk.adjust = s.tk.adjust := h.same .adjust (hparts _ (by decide))
  have halarm : t.tk.alarm = s.tk.alarm := h.same .alarm (hparts _ (by decide))
  obtain ⟨htime, hdate⟩ := h.same .setFlags (hparts _ (by decide))
  have hwake : t.tk.wake = s.tk.wake := h.same .wake (hparts _ (by decide))
  generalize t.tk = a at *
  generalize s.tk = b at *
  cases a
  cases b
  simp_all

theorem setDetector_frame (d : Detector) (b : Bool) (s : State) :
    Frame [.halt] s { s with sup := { s.sup with detector := d, oscSeen := b } } := by
  refine ⟨rfl, rfl, rfl, ⟨rfl, rfl, rfl⟩, fun p hp => ?_⟩
  cases p <;> simp_all [Part.same]

theorem detectPeriod_frame (s : State) : Frame [.scanTimer, .halt] s (detectPeriod s) :=
  Frame.thenIf (setDetector_frame _ _ s).mono (enterHalted_frame _)

theorem stretchPeriod_frame (s : State) : Frame [.stretch] s (stretchPeriod s) := by
  refine Frame.ite ⟨rfl, rfl, rfl, ⟨rfl, rfl, rfl⟩, fun p hp => ?_⟩ (Frame.refl _ s)
  cases p <;> simp_all [Part.same]

theorem chainPeriod_frame (s : State) : Frame [.identify] s (chainPeriod s) := by
  unfold chainPeriod
  split
  · exact Frame.refl _ s
  · exact setIdentify_frame _ s

theorem mainPeriod_frame (s : State) : Frame [.scanTimer, .halt, .stretch, .identify] s (mainPeriod s) :=
  Frame.ite (((detectPeriod_frame s).mono.andThen (stretchPeriod_frame _)).andThen (chainPeriod_frame _)) (Frame.refl _ s)

theorem scanTimerCycle_frame (s : State) : Frame [.scanTimer] s (scanTimerCycle s) := by
  refine Frame.ite ?_ ?_ <;>
    refine ⟨rfl, rfl, rfl, ⟨rfl, rfl, rfl⟩, fun p hp => ?_⟩ <;>
    cases p <;> simp_all [Part.same]

theorem countCycle_frame (n : Nat) (s : State) : Frame [.counters] s { s with tk := { s.tk with prescaler := n } } := by
  refine ⟨rfl, rfl, rfl, ⟨rfl, rfl, rfl⟩, fun p hp => ?_⟩
  cases p <;> simp_all [Part.same]

theorem oscillatorPeriod_frame (s : State) : Frame [.counters, .scanTimer] s (oscillatorPeriod s) := by
  have hcount : Frame [.counters, .scanTimer] s
      (if s.sup.power = .dead then s else { s with tk := { s.tk with prescaler := s.tk.prescaler + 1 } }) :=
    Frame.ite (Frame.refl _ s) (countCycle_frame _ s).mono
  exact Frame.thenIf hcount (scanTimerCycle_frame _)

/-- The parts that a CLK period moves. -/
theorem clkPeriod_frame (s : State) :
    Frame [.counters, .scanTimer, .identify, .halt, .stretch] (samplePins s) (clkPeriod s) :=
  Frame.thenIf (mainPeriod_frame _).mono (oscillatorPeriod_frame _)

/-! ### The halt detector -/

/-- The detector enters HALTED in this period (R153). -/
theorem countReached_detectorPeriod {cycle : Bool} {d : Detector} :
    countReached (detectorPeriod cycle d) = true ↔ cycle = false ∧ ∃ n, d = .watching n ∧ 8192 ≤ n + 1 := by
  cases d <;> cases cycle <;> simp [detectorPeriod, countReached]

/-- The halt detector after a period, the entry into HALTED included (R153). -/
theorem detectPeriod_detector (s : State) : (detectPeriod s).sup.detector =
    match s.sup.detector with
    | .watching n => if s.env.pins.oscCycle then .watching 0 else if n + 1 < 8192 then .watching (n + 1) else .halted
    | .halted => if s.env.pins.oscCycle then .watching 0 else .halted := by
  rw [(detectPeriod_sup s).1]
  cases s.sup.detector with
  | halted => cases s.env.pins.oscCycle <;> simp [detectorPeriod, countReached]
  | watching n =>
    cases s.env.pins.oscCycle
    · by_cases hn : n + 1 < 8192 <;> simp [detectorPeriod, countReached, hn] <;> omega
    · simp [detectorPeriod, countReached]

theorem detectPeriod_oscSeen (s : State) : (detectPeriod s).sup.oscSeen = (s.sup.oscSeen || s.env.pins.oscCycle) := by
  unfold detectPeriod
  simp only
  split
  · simp only [enterHalted_sup]
    split <;> rfl
  · rfl

/-- A period that brings the detector to HALTED drops a ready pass and is the finding of the oscillator check, or makes a
halt detection ready (R23, R153, R155). -/
theorem detectPeriod_of_halts {s : State} (h : countReached (detectorPeriod s.env.pins.oscCycle s.sup.detector) = true) :
    (detectPeriod s).scan = { s.scan with ready := false } ∧
    if s.sup.phase = .held then
      (detectPeriod s).sup.oscHalt = some (haltDetails s) ∧ (detectPeriod s).sup.haltReady = s.sup.haltReady
    else (detectPeriod s).sup.oscHalt = s.sup.oscHalt ∧ (detectPeriod s).sup.haltReady = true := by
  have hperiod : detectPeriod s = enterHalted { s with sup := { s.sup with
      detector := detectorPeriod s.env.pins.oscCycle s.sup.detector
      oscSeen := s.sup.oscSeen || s.env.pins.oscCycle } } := if_pos h
  refine ⟨by rw [hperiod]; simp, ?_⟩
  by_cases hphase : s.sup.phase = .held
  · rw [if_pos hphase, hperiod]
    simp [hphase, haltDetails]
  · rw [if_neg hphase, hperiod]
    simp [hphase]

theorem detectPeriod_of_not_halts {s : State}
    (h : ¬ countReached (detectorPeriod s.env.pins.oscCycle s.sup.detector) = true) :
    (detectPeriod s).scan = s.scan ∧ (detectPeriod s).sup.oscHalt = s.sup.oscHalt ∧
    (detectPeriod s).sup.haltReady = s.sup.haltReady := by
  have hperiod : detectPeriod s = { s with sup := { s.sup with
      detector := detectorPeriod s.env.pins.oscCycle s.sup.detector
      oscSeen := s.sup.oscSeen || s.env.pins.oscCycle } } := if_neg h
  rw [hperiod]
  exact ⟨rfl, rfl, rfl⟩

/-! ### The main domain's counters -/

theorem stretchPeriod_scan (s : State) : (stretchPeriod s).scan = s.scan := by
  unfold stretchPeriod
  split <;> rfl

theorem stretchPeriod_sup (s : State) : (stretchPeriod s).sup =
    { s.sup with stretchClks := if s.sup.phase = .stretch then s.sup.stretchClks + 1 else s.sup.stretchClks } := by
  unfold stretchPeriod
  split <;> rfl

theorem chainPeriod_scan (s : State) : (chainPeriod s).scan = s.scan := by
  unfold chainPeriod
  split <;> rfl

theorem chainPeriod_sup (s : State) : (chainPeriod s).sup = s.sup := by
  unfold chainPeriod
  split <;> rfl

theorem mainPeriod_of_mainOn {s : State} (h : s.sup.power = .mainOn) :
    mainPeriod s = chainPeriod (stretchPeriod (detectPeriod s)) := if_pos h

theorem mainPeriod_of_not_mainOn {s : State} (h : s.sup.power ≠ .mainOn) : mainPeriod s = s := if_neg h

theorem mainPeriod_scan_of_mainOn {s : State} (h : s.sup.power = .mainOn) : (mainPeriod s).scan = (detectPeriod s).scan := by
  rw [mainPeriod_of_mainOn h, chainPeriod_scan, stretchPeriod_scan]

theorem mainPeriod_sup_of_mainOn {s : State} (h : s.sup.power = .mainOn) : (mainPeriod s).sup =
    { (detectPeriod s).sup with stretchClks :=
        if (detectPeriod s).sup.phase = .stretch then (detectPeriod s).sup.stretchClks + 1
        else (detectPeriod s).sup.stretchClks } := by
  rw [mainPeriod_of_mainOn h, chainPeriod_sup, stretchPeriod_sup]

/-! ### The scan timer -/

theorem oscillatorPeriod_sup (s : State) : (oscillatorPeriod s).sup = s.sup := by
  unfold oscillatorPeriod
  simp only
  split_ifs <;> simp

theorem clkPeriod_sup (s : State) : (clkPeriod s).sup = (mainPeriod (samplePins s)).sup := by
  unfold clkPeriod
  simp only
  split
  · exact oscillatorPeriod_sup _
  · rfl

theorem oscillatorPeriod_tk (s : State) : (oscillatorPeriod s).tk =
    { s.tk with prescaler := if s.sup.power = .dead then s.tk.prescaler else s.tk.prescaler + 1 } := by
  unfold oscillatorPeriod
  simp only
  split_ifs <;> simp_all

theorem oscillatorPeriod_scan (s : State) : (oscillatorPeriod s).scan =
    if scanRuns s then
      if s.scan.interval ≤ s.scan.timer + 1 then { s.scan with timer := 0, interval := scanCycles s.cfg, ready := true }
      else { s.scan with timer := s.scan.timer + 1 }
    else s.scan := by
  have hcounted (u : State) (hscan : u.scan = s.scan) (hcfg : u.cfg = s.cfg) (hruns : scanRuns u = scanRuns s) :
      (if scanRuns u then scanTimerCycle u else u).scan = if scanRuns s then
        if s.scan.interval ≤ s.scan.timer + 1 then { s.scan with timer := 0, interval := scanCycles s.cfg, ready := true }
        else { s.scan with timer := s.scan.timer + 1 } else s.scan := by
    rw [hruns]
    split
    · rw [scanTimerCycle_scan, hscan, hcfg]
    · exact hscan
  unfold oscillatorPeriod
  simp only
  split
  · exact hcounted s rfl rfl rfl
  · exact hcounted _ rfl rfl rfl

/-- Whether the main domain runs is read from the supervisor alone. -/
theorem runs_congr {s t : State} (hpower : Part.power.same s t) (hrequest : Part.request.same s t) (hcut : Part.cut.same s t) :
    Runs t ↔ Runs s := by
  obtain ⟨hstate, hphase, -, -⟩ := hpower
  have hrequest' : t.sup.request = s.sup.request := hrequest
  have hcut' : t.sup.cutShort = s.sup.cutShort := hcut
  rw [Runs, Runs, hstate, hphase, hrequest', hcut']

/-- A period keeps the main domain running, or not. -/
theorem runs_mainPeriod (s : State) : Runs (mainPeriod s) ↔ Runs s :=
  have hframe := mainPeriod_frame s
  runs_congr (hframe.same .power (by decide)) (hframe.same .request (by decide)) (hframe.same .cut (by decide))

theorem runs_samplePins (s : State) : Runs (samplePins s) ↔ Runs s :=
  runs_congr (samplePins_same .power s) (samplePins_same .request s) (samplePins_same .cut s)

/-- In a period with an oscillator cycle the scan timer counts exactly while scanning runs (R23): the cycle has ended
HALTED. -/
theorem scanRuns_mainPeriod {s : State} (hcycle : (seenPins s).oscCycle = true) :
    scanRuns (mainPeriod (samplePins s)) = true ↔ PortOpen s ∧ s.scan.run = true := by
  have hframe := mainPeriod_frame (samplePins s)
  have hphase : (mainPeriod (samplePins s)).sup.phase = s.sup.phase :=
    (hframe.same .power (by decide)).2.1.trans (by simp)
  have hrun : (mainPeriod (samplePins s)).scan.run = s.scan.run := Eq.trans (hframe.same .scanRun (by decide)) (by simp)
  rw [scanRuns_iff, PassReady, PortOpen, PortOpen, runs_mainPeriod, runs_samplePins, hphase, hrun]
  refine ⟨fun ⟨hopen, hscan, _⟩ => ⟨hopen, hscan⟩, fun ⟨hopen, hscan⟩ => ⟨hopen, hscan, ?_⟩⟩
  have hpower : (samplePins s).sup.power = .mainOn := by simpa using hopen.1.1
  rw [NotHalted, mainPeriod_sup_of_mainOn hpower]
  simp only [detectPeriod_detector, samplePins_env, hcycle, if_true]
  split <;> simp

/-! ### The chain sequencer -/

theorem runningCycle_iff {s : State} {c : ChainCycle} : runningCycle s = some c ↔ CycleIn s c c.phase := by
  constructor
  · intro h
    obtain ⟨hr, hstate, hcycle⟩ := runningCycle_eq_some h
    exact ⟨hr, hstate, hcycle, rfl⟩
  · rintro ⟨hr, hstate, hcycle, -⟩
    simp [runningCycle, mainRunning_of_runs hr, hstate, hcycle]

theorem chcLow_iff (n : Nat) : chcLow n = true ↔ PulseLow n := by
  simp only [chcLow, PulseLow, Bool.and_eq_true, decide_eq_true_eq]
  constructor
  · rintro ⟨⟨hlow, hhigh⟩, hmod⟩
    exact ⟨(n - 64) / 32, by omega, by omega, by omega⟩
  · rintro ⟨k, hk, hlow, hhigh⟩
    omega

theorem risingEdge_iff (n : Nat) : risingEdge n = true ↔ SampleAt n := by
  simp only [risingEdge, chcLow, SampleAt, Bool.and_eq_true, decide_eq_true_eq, beq_iff_eq]
  constructor
  · rintro ⟨⟨⟨hlow, hhigh⟩, -⟩, hmod⟩
    exact ⟨(n - 79) / 32, by omega, by omega⟩
  · rintro ⟨k, hk, hn⟩
    omega

theorem runningCycle_congr {s t : State} (hruns : Runs t ↔ Runs s) (hid : t.id = s.id) : runningCycle t = runningCycle s := by
  have hmain : mainRunning t = mainRunning s := by
    rw [Bool.eq_iff_iff]
    exact ⟨fun h => mainRunning_of_runs (hruns.1 (runs_of_mainRunning h)),
      fun h => mainRunning_of_runs (hruns.2 (runs_of_mainRunning h))⟩
  rw [runningCycle, runningCycle, hmain, hid]

/-- The chain sequencer finds the period's other counters done, and its own state and the inputs as they were. -/
theorem beforeChainPeriod (s : State) :
    (stretchPeriod (detectPeriod (samplePins s))).id = s.id ∧
    (stretchPeriod (detectPeriod (samplePins s))).env.pins = seenPins s ∧
    runningCycle (stretchPeriod (detectPeriod (samplePins s))) = runningCycle s := by
  have hframe : Frame [.scanTimer, .halt, .stretch] (samplePins s) (stretchPeriod (detectPeriod (samplePins s))) :=
    (detectPeriod_frame _).mono.andThen (stretchPeriod_frame _)
  have hid : (stretchPeriod (detectPeriod (samplePins s))).id = s.id := Eq.trans (hframe.same .identify (by decide)) (by simp)
  have hruns : Runs (stretchPeriod (detectPeriod (samplePins s))) ↔ Runs s :=
    (runs_congr (hframe.same .power (by decide)) (hframe.same .request (by decide)) (hframe.same .cut (by decide))).trans
      (runs_samplePins s)
  exact ⟨hid, by rw [hframe.env, samplePins_env], runningCycle_congr hruns hid⟩

theorem chainPeriod_of_none {s : State} (h : runningCycle s = none) : chainPeriod s = s := by
  simp only [chainPeriod, h]

theorem chainPeriod_of_some {s : State} {c : ChainCycle} (h : runningCycle s = some c) : (chainPeriod s).id =
    { s.id with
      cycle := some { c with
        time := c.time + 1
        bits := if c.phase = .shift ∧ risingEdge c.time then (c.bits <<< 1) ||| (if s.env.pins.chdLow then 0 else 1)
          else c.bits }
      chc := !(decide (c.phase = .shift) && chcLow c.time) } := by
  simp only [chainPeriod, h]

theorem clkPeriod_id (s : State) : (clkPeriod s).id = (mainPeriod (samplePins s)).id := by
  unfold clkPeriod
  simp only
  split
  · exact (oscillatorPeriod_frame _).same .identify (by decide)
  · rfl

/-- The chain sequencer in a CLK period, while no cycle runs. -/
theorem clkPeriod_id_of_stopped {s : State} (h : runningCycle s = none) : (clkPeriod s).id = s.id := by
  rw [clkPeriod_id]
  by_cases hpower : s.sup.power = .mainOn
  · obtain ⟨hid, -, hcycle⟩ := beforeChainPeriod s
    rw [mainPeriod_of_mainOn (by simpa using hpower), chainPeriod_of_none (hcycle.trans h), hid]
  · rw [mainPeriod_of_not_mainOn (by simpa using hpower), samplePins_id]

/-- The chain sequencer in a CLK period of a cycle (R124). -/
theorem clkPeriod_id_of_cycle {s : State} {c : ChainCycle} (h : runningCycle s = some c) : (clkPeriod s).id =
    { s.id with
      cycle := some { c with
        time := c.time + 1
        bits := if c.phase = .shift ∧ risingEdge c.time then (c.bits <<< 1) ||| (if (seenPins s).chdLow then 0 else 1)
          else c.bits }
      chc := !(decide (c.phase = .shift) && chcLow c.time) } := by
  have hpower : (samplePins s).sup.power = .mainOn := by simpa using (runningCycle_eq_some h).1.1
  obtain ⟨hid, henv, hcycle⟩ := beforeChainPeriod s
  rw [clkPeriod_id, mainPeriod_of_mainOn hpower, chainPeriod_of_some (hcycle.trans h), hid, henv]

/-! ### Every counter -/

theorem haltsNow_iff (s : State) : HaltsNow s ↔ s.sup.power = .mainOn ∧
    countReached (detectorPeriod (samplePins s).env.pins.oscCycle (samplePins s).sup.detector) = true := by
  rw [countReached_detectorPeriod, samplePins_env, samplePins_sup]
  rfl

theorem detectPeriod_phase (s : State) : (detectPeriod s).sup.phase = s.sup.phase :=
  ((detectPeriod_frame s).same .power (by decide)).2.1

theorem mainPeriod_scan (s : State) : (HaltsNow s → (mainPeriod (samplePins s)).scan = { s.scan with ready := false }) ∧
    (¬ HaltsNow s → (mainPeriod (samplePins s)).scan = s.scan) := by
  rw [haltsNow_iff]
  by_cases hpower : s.sup.power = .mainOn
  · have hpower' : (samplePins s).sup.power = .mainOn := by simpa using hpower
    rw [mainPeriod_scan_of_mainOn hpower']
    refine ⟨fun h => ?_, fun h => ?_⟩
    · rw [(detectPeriod_of_halts h.2).1, samplePins_scan]
    · rw [(detectPeriod_of_not_halts (fun hreached => h ⟨hpower, hreached⟩)).1, samplePins_scan]
  · rw [mainPeriod_of_not_mainOn (by simpa using hpower)]
    exact ⟨fun h => absurd h.1 hpower, fun _ => by simp⟩

theorem clkPeriod_scan (s : State) : (clkPeriod s).scan =
    if (seenPins s).oscCycle then (oscillatorPeriod (mainPeriod (samplePins s))).scan
    else (mainPeriod (samplePins s)).scan := by
  have henv : (mainPeriod (samplePins s)).env.pins.oscCycle = (seenPins s).oscCycle := by
    rw [(mainPeriod_frame _).env, samplePins_env]
  unfold clkPeriod
  simp only [henv]
  split <;> rfl

theorem clkPeriod_tk (s : State) : (clkPeriod s).tk = { s.tk with prescaler :=
    if (seenPins s).oscCycle = true ∧ s.sup.power ≠ .dead then s.tk.prescaler + 1 else s.tk.prescaler } := by
  have hmain := mainPeriod_frame (samplePins s)
  have henv : (mainPeriod (samplePins s)).env.pins.oscCycle = (seenPins s).oscCycle := by
    rw [hmain.env, samplePins_env]
  have htk : (mainPeriod (samplePins s)).tk = s.tk := hmain.tk_eq.trans (by simp)
  have hpower : (mainPeriod (samplePins s)).sup.power = s.sup.power := (hmain.same .power (by decide)).1.trans (by simp)
  unfold clkPeriod
  simp only [henv]
  by_cases hcycle : (seenPins s).oscCycle = true
  · rw [if_pos hcycle, oscillatorPeriod_tk, htk, hpower]
    by_cases hdead : s.sup.power = .dead <;> simp [hcycle, hdead]
  · simp [hcycle, htk]

/-- While MAIN-ON: the detector, the oscillator check and the stretch (R153, R155, R180). -/
theorem clkPeriod_sup_of_mainOn {s : State} (h : s.sup.power = .mainOn) : (clkPeriod s).sup =
    { (detectPeriod (samplePins s)).sup with stretchClks :=
        if s.sup.phase = .stretch then s.sup.stretchClks + 1 else s.sup.stretchClks } := by
  have hclks : (detectPeriod (samplePins s)).sup.stretchClks = s.sup.stretchClks :=
    ((detectPeriod_frame _).same .stretch (by decide)).2.trans (by simp)
  rw [clkPeriod_sup, mainPeriod_sup_of_mainOn (by simpa using h), detectPeriod_phase, hclks, samplePins_sup]

theorem clkPeriod_sup_of_not_mainOn {s : State} (h : s.sup.power ≠ .mainOn) : (clkPeriod s).sup = s.sup := by
  rw [clkPeriod_sup, mainPeriod_of_not_mainOn (by simpa using h), samplePins_sup]

theorem clkPeriod_stretchTicks (s : State) : (clkPeriod s).sup.stretchTicks = s.sup.stretchTicks := by
  by_cases h : s.sup.power = .mainOn
  · rw [clkPeriod_sup_of_mainOn h]
    exact ((detectPeriod_frame _).same .stretch (by decide)).1.trans (by simp)
  · rw [clkPeriod_sup_of_not_mainOn h]

/-- What a period that does not bring the detector to HALTED leaves of a halt (R153, R155). -/
theorem clkPeriod_of_not_halts {s : State} (h : ¬ HaltsNow s) : (clkPeriod s).sup.oscHalt = s.sup.oscHalt ∧
    (clkPeriod s).sup.haltReady = s.sup.haltReady := by
  by_cases hpower : s.sup.power = .mainOn
  · have hreached : ¬ countReached (detectorPeriod (samplePins s).env.pins.oscCycle (samplePins s).sup.detector) = true :=
      fun hr => h ((haltsNow_iff s).2 ⟨hpower, hr⟩)
    obtain ⟨-, hosc, hready⟩ := detectPeriod_of_not_halts hreached
    rw [clkPeriod_sup_of_mainOn hpower]
    exact ⟨hosc.trans (by simp), hready.trans (by simp)⟩
  · rw [clkPeriod_sup_of_not_mainOn hpower]
    exact ⟨rfl, rfl⟩

theorem clkPeriod_of_halts {s : State} (h : HaltsNow s) : (clkPeriod s).scan = { s.scan with ready := false } ∧
    if s.sup.phase = .held then
      (clkPeriod s).sup.oscHalt = some (byteOf s.tk.cal.second, byteOf s.tk.sub) ∧
        (clkPeriod s).sup.haltReady = s.sup.haltReady
    else (clkPeriod s).sup.oscHalt = s.sup.oscHalt ∧ (clkPeriod s).sup.haltReady = true := by
  obtain ⟨-, hhalts⟩ := detectPeriod_of_halts ((haltsNow_iff s).1 h).2
  rw [clkPeriod_sup_of_mainOn h.1, clkPeriod_scan, h.2.1]
  refine ⟨(mainPeriod_scan s).1 h, ?_⟩
  simpa [haltDetails] using hhalts

/-- The scan timer counts an oscillator cycle while scanning runs, and otherwise a period leaves the scanner, but for the
entry into HALTED (R23, R24). -/
theorem clkPeriod_scanTimer (s : State) :
    ((seenPins s).oscCycle = true → PortOpen s → s.scan.run = true → (clkPeriod s).scan =
      if s.scan.timer + 1 < s.scan.interval then { s.scan with timer := s.scan.timer + 1 }
      else { s.scan with timer := 0, interval := scanCycles s.cfg, ready := true }) ∧
    ((seenPins s).oscCycle = false ∨ ¬ PortOpen s ∨ s.scan.run = false → ¬ HaltsNow s → (clkPeriod s).scan = s.scan) := by
  refine ⟨fun hcycle hopen hrun => ?_, fun hidle hhalts => ?_⟩
  · have hhalts : ¬ HaltsNow s := fun h => absurd h.2.1 (by simp [hcycle])
    have hcfg : (mainPeriod (samplePins s)).cfg = s.cfg := Eq.trans ((mainPeriod_frame _).same .config (by decide)) (by simp)
    rw [clkPeriod_scan, hcycle, if_pos rfl, oscillatorPeriod_scan, if_pos ((scanRuns_mainPeriod hcycle).2 ⟨hopen, hrun⟩),
      (mainPeriod_scan s).2 hhalts, hcfg]
    by_cases hdue : s.scan.interval ≤ s.scan.timer + 1
    · rw [if_pos hdue, if_neg (by omega)]
    · rw [if_neg hdue, if_pos (by omega)]
  · rw [clkPeriod_scan]
    by_cases hcycle : (seenPins s).oscCycle = true
    · have hstopped : ¬ scanRuns (mainPeriod (samplePins s)) = true := by
        rw [scanRuns_mainPeriod hcycle]
        rintro ⟨hopen, hrun⟩
        simp [hcycle, hopen, hrun] at hidle
      rw [if_pos hcycle, oscillatorPeriod_scan, if_neg hstopped, (mainPeriod_scan s).2 hhalts]
    · rw [if_neg hcycle, (mainPeriod_scan s).2 hhalts]

/-- The chain sequencer's time, clock and samples (R124). -/
theorem clkPeriod_chain (s : State) :
    (∀ c, CycleIn s c c.phase → ∃ bits,
      (clkPeriod s).id = { s.id with
        cycle := some { c with time := c.time + 1, bits := bits }, chc := (clkPeriod s).id.chc } ∧
      ((clkPeriod s).id.chc = false ↔ c.phase = .shift ∧ PulseLow c.time) ∧
      (c.phase = .shift ∧ SampleAt c.time → bits = (c.bits <<< 1) ||| (if (seenPins s).chdLow then 0#9 else 1#9)) ∧
      (¬ (c.phase = .shift ∧ SampleAt c.time) → bits = c.bits)) ∧
    ((∀ c, ¬ CycleIn s c c.phase) → (clkPeriod s).id = s.id) := by
  refine ⟨fun c hc => ?_, fun hnone => ?_⟩
  · have hid := clkPeriod_id_of_cycle (runningCycle_iff.2 hc)
    refine ⟨_, by rw [hid], ?_, fun hsample => ?_, fun hsample => ?_⟩
    · rw [hid, ← chcLow_iff]
      simp
    · exact if_pos ⟨hsample.1, (risingEdge_iff _).2 hsample.2⟩
    · exact if_neg fun h => hsample ⟨h.1, (risingEdge_iff _).1 h.2⟩
  · refine clkPeriod_id_of_stopped (Option.eq_none_iff_forall_ne_some.2 fun c hc => ?_)
    exact hnone c (runningCycle_iff.1 hc)

/-- A CLK period moves the counters and nothing else (R23, R139, R153, R155, R180). -/
theorem clkPasses_clkPeriod (s : State) : ClkPasses s (clkPeriod s) := by
  have hframe := clkPeriod_frame s
  obtain ⟨hcounts, hidle⟩ := clkPeriod_scanTimer s
  obtain ⟨hcycle, hstopped⟩ := clkPeriod_chain s
  refine ⟨by rw [ReadsPins, hframe.env, samplePins_env], (samplePins_changes _ s).trans hframe.changesOnly, ?_, ?_,
    clkPeriod_tk s, hcounts, hidle, fun hpower => ?_, clkPeriod_sup_of_not_mainOn, clkPeriod_of_halts,
    clkPeriod_of_not_halts, clkPeriod_stretchTicks s, hcycle, hstopped⟩
  · rw [hframe.lv_eq, samplePins_lv]
  · rw [hframe.pwrLow, samplePins_sup]
  · rw [clkPeriod_sup_of_mainOn hpower]
    refine ⟨?_, ?_, rfl⟩
    · exact (detectPeriod_detector _).trans (by simp only [samplePins_sup, samplePins_env] <;> rfl)
    · rw [detectPeriod_oscSeen, samplePins_sup, samplePins_env]

end Sys2Proof.Machine
end

section
-- One lemma at a time: elaborated side by side they ask for more threads than the memory limit of the check leaves.
set_option Elab.async false
/-!
PROOF. The steps that are ready inside this LSI and the one of them that is taken (section 1.3).
-/

namespace Sys2Proof.Machine

/-! ### What the tests of the ready steps say -/

theorem softReady_iff (s : State) : softReady s = true ↔
    s.sup.power = .mainOn ∧ s.sup.request = some .soft ∧ s.sup.cutShort = false := by
  simp [softReady, and_assoc]

theorem hostSideReady_iff (s : State) : hostSideReady s = true ↔
    s.sup.power = .mainOn ∧ s.sup.phase ≠ .held ∧ s.sup.cutShort = false ∧
      (s.sup.request = some .watchdog ∨ s.sup.request = some .chord) := by
  simp [hostSideReady, and_assoc]

theorem mainRunning_iff (s : State) : mainRunning s = true ↔ Runs s :=
  ⟨runs_of_mainRunning, mainRunning_of_runs⟩

theorem stretchEnded_iff (s : State) : stretchEnded s = true ↔ StretchOver s := by
  simp [stretchEnded, StretchOver, or_assoc]

theorem releaseReady_iff (s : State) : releaseReady s = true ↔ PortClosed s ∧ StretchOver s := by
  simp only [releaseReady, PortClosed, Bool.and_eq_true, beq_iff_eq, mainRunning_iff, stretchEnded_iff]

theorem fullResetReady_iff (s : State) : fullResetReady s = true ↔
    s.sup.power = .mainOn ∧ s.sup.phase = .held ∧ s.sup.cutShort = false ∧
      (s.sup.oscSeen = true ∨ s.sup.oscHalt ≠ none) ∧ (seenPins s).nresetLow = false := by
  simp [fullResetReady, oscillatorChecked, and_assoc, Option.isSome_iff_ne_none]

theorem haltDue_iff (s : State) : haltDue s = true ↔
    s.sup.power = .mainOn ∧ s.sup.phase ≠ .held ∧ s.sup.cutShort = false ∧ s.sup.haltReady = true := by
  simp [haltDue, and_assoc]

theorem oscillatorRuns_iff (s : State) : oscillatorRuns s = true ↔ TickReady s := by
  simp [oscillatorRuns, TickReady, imp_iff_not_or]

theorem selectionReady_iff (s : State) : selectionReady s = true ↔ Runs s ∧ s.id.state = .run ∧ s.id.cycle = none := by
  simp [selectionReady, mainRunning_iff, and_assoc]

/-! ### The kinds of the ready steps -/

theorem readySupervisory_eq_some {s : State} {c : Instr} (h : readySupervisory s = some c) :
    (c = .softFullReset ∧ softReady s = true) ∨ (c = .hostSideReset none ∧ hostSideReady s = true) ∨
    (c = .nhrstRelease ∧ releaseReady s = true) ∨ (c = .fullResetSequence none ∧ fullResetReady s = true) ∨
    (c = .haltDetection ∧ softReady s = false ∧ hostSideReady s = false ∧ haltDue s = true) := by
  unfold readySupervisory at h
  split_ifs at h <;> simp_all

theorem readyChain_kind {s : State} {c : Instr} (h : readyChain s = some c) : kindOf c = .identify ∧ c ≠ .selectionStep := by
  unfold readyChain at h
  split at h
  · cases h
  · split at h <;> split_ifs at h <;> cases h <;> exact ⟨rfl, by simp⟩

theorem commandOf_kind (code : Byte) : kindOf ((commandOf code).getD .badCommand) = .command := by
  have htable : ∀ r ∈ commandTable, kindOf r.2 = .command := by decide
  unfold commandOf
  cases hfind : commandTable.find? (fun r => r.1 == code) with
  | none => rfl
  | some r => exact htable r (List.mem_of_find?_eq_some hfind)

theorem readyCommand_kind {s : State} {c : Instr} (h : readyCommand s = some c) : kindOf c = .command := by
  unfold readyCommand at h
  split at h
  · obtain ⟨code, -, rfl⟩ := Option.map_eq_some_iff.1 h
    exact commandOf_kind code
  · cases h

theorem mem_readySteps {s : State} {c : Instr} : c ∈ readySteps s ↔ readySupervisory s = some c ∨
    ((TickReady s ∧ s.tk.interval ≤ s.tk.prescaler) ∧ c = .timebaseTick) ∨
    ((PassReady s ∧ s.scan.ready = true) ∧ c = .scanPass (seenPins s).matrix) ∨
    ((Runs s ∧ s.id.state = .run ∧ s.id.cycle = none) ∧ c = .selectionStep) ∨
    readyChain s = some c ∨ readyCommand s = some c := by
  have hone (p : Prop) [Decidable p] (d : Instr) : c ∈ (if p then [d] else []) ↔ p ∧ c = d := by
    split <;> simp_all
  simp only [readySteps, List.mem_append, hone, Option.mem_toList, Bool.and_eq_true, decide_eq_true_eq,
    oscillatorRuns_iff, scanRuns_iff, selectionReady_iff, or_assoc]

/-! ### Which step is taken on an empty queue (R5) -/

theorem nextReady_eq_head (s : State) : nextReady s = (readySteps s).head? := by
  have hone (p : Prop) [Decidable p] (d : Instr) : (if p then [d] else []).head? = if p then some d else none := by
    split <;> rfl
  have hoption (o : Option Instr) : o.toList.head? = o := by cases o <;> rfl
  simp only [readySteps, nextReady, List.head?_append, hone, hoption, samplePins_env, Option.or_assoc]

theorem queueOrdered_append {a b : List Instr} (n : Nat) (ha : QueueOrdered a) (hb : QueueOrdered b)
    (hbelow : ∀ c ∈ a, precedence (kindOf c) ≤ n) (habove : ∀ d ∈ b, n ≤ precedence (kindOf d)) : QueueOrdered (a ++ b) :=
  List.pairwise_append.2 ⟨ha, hb, fun c hc d hd => (hbelow c hc).trans (habove d hd)⟩

theorem queueOrdered_ite (p : Prop) [Decidable p] (c : Instr) : QueueOrdered (if p then [c] else []) := by
  split
  · exact List.pairwise_singleton _ _
  · exact List.Pairwise.nil

theorem queueOrdered_toList (o : Option Instr) : QueueOrdered o.toList := by
  cases o with
  | none => exact List.Pairwise.nil
  | some c => exact List.pairwise_singleton _ _

/-- The ready steps stand in the order of precedence: supervisory events, tick, scan pass, identify, mailbox command. -/
theorem queueOrdered_readySteps (s : State) : QueueOrdered (readySteps s) := by
  have hsupervisory : ∀ c ∈ (readySupervisory s).toList, precedence (kindOf c) ≤ 7 := by
    intro c hc
    rcases readySupervisory_eq_some (by simpa using hc) with ⟨rfl, -⟩ | ⟨rfl, -⟩ | ⟨rfl, -⟩ | ⟨rfl, -⟩ | ⟨rfl, -⟩ <;> decide
  have hblock (p : Prop) [Decidable p] (d : Instr) : ∀ c ∈ (if p then [d] else []), kindOf c = kindOf d := by
    split <;> simp_all
  have hchain : ∀ c ∈ (readyChain s).toList, precedence (kindOf c) = 9 := by
    intro c hc
    rw [(readyChain_kind (by simpa using hc)).1]
    rfl
  have hcommand : ∀ c ∈ (readyCommand s).toList, precedence (kindOf c) = 10 := by
    intro c hc
    rw [readyCommand_kind (by simpa using hc)]
    rfl
  have hle {a b : List Instr} {m n : Nat} (hmn : m ≤ n) (ha : ∀ c ∈ a, precedence (kindOf c) ≤ m)
      (hb : ∀ c ∈ b, precedence (kindOf c) ≤ n) : ∀ c ∈ a ++ b, precedence (kindOf c) ≤ n := fun c hc =>
    (List.mem_append.1 hc).elim (fun h => (ha c h).trans hmn) (hb c)
  have hfixed (p : Prop) [Decidable p] (d : Instr) : ∀ c ∈ (if p then [d] else []),
      precedence (kindOf c) = precedence (kindOf d) := fun c hc => by rw [hblock p d c hc]
  have htick := fun c hc => (hfixed (oscillatorRuns s && decide (s.tk.interval ≤ s.tk.prescaler)) .timebaseTick c hc)
  have hpass := fun c hc => (hfixed (scanRuns s && s.scan.ready) (.scanPass (seenPins s).matrix) c hc)
  have hselect := fun c hc => (hfixed (selectionReady s) .selectionStep c hc)
  have h1 := hle (n := 7) le_rfl hsupervisory (fun c hc => (htick c hc).le)
  have h2 := hle (n := 8) (by decide) h1 (fun c hc => (hpass c hc).le)
  have h3 := hle (n := 9) (by decide) h2 (fun c hc => (hselect c hc).le)
  have h4 := hle (n := 9) (by decide) h3 (fun c hc => (hchain c hc).le)
  exact queueOrdered_append 9
    (queueOrdered_append 9
      (queueOrdered_append 8
        (queueOrdered_append 7
          (queueOrdered_append 7 (queueOrdered_toList _) (queueOrdered_ite _ _) hsupervisory fun c hc => (htick c hc).ge)
          (queueOrdered_ite _ _) h1 fun c hc => (by decide : 7 ≤ 8).trans (hpass c hc).ge)
        (queueOrdered_ite _ _) h2 fun c hc => (by decide : 8 ≤ 9).trans (hselect c hc).ge)
      (queueOrdered_toList _) h3 fun c hc => (hchain c hc).ge)
    (queueOrdered_toList _) h4 fun c hc => (by decide : 9 ≤ 10).trans (hcommand c hc).ge

/-- Settles O3: the step taken is the head of the ready steps, which stand in the order of precedence. -/
theorem idleStepTakesTheHighestPrecedence : Obligations.IdleStepTakesTheHighestPrecedence := by
  intro s hidle
  have hordered := queueOrdered_readySteps s
  have htaken (o : Option Instr) (ho : (readySteps s).head? = o) :
      step s = (o.map fun c => exec c s).getD (.next (clkPeriod s)) := by
    rw [← nextReady_eq_head] at ho
    cases o <;> simp only [step, hidle, ho] <;> rfl
  cases hready : readySteps s with
  | nil => exact .inr ⟨rfl, htaken none (by rw [hready]; rfl)⟩
  | cons c rest =>
    rw [hready] at hordered
    refine .inl ⟨c, List.mem_cons_self, fun d hd => ?_, htaken (some c) (by rw [hready]; rfl)⟩
    obtain rfl | hd := List.mem_cons.1 hd
    · exact le_rfl
    · exact (List.pairwise_cons.1 hordered).1 d hd

/-! ### What makes a step ready (R10, R12, R23, R114, R122 to R125, R139, R153, R155, R177, R180, R181) -/

theorem readySupervisory_kind {s : State} {c : Instr} (h : readySupervisory s = some c) : precedence (kindOf c) ≤ 5 := by
  rcases readySupervisory_eq_some h with ⟨rfl, -⟩ | ⟨rfl, -⟩ | ⟨rfl, -⟩ | ⟨rfl, -⟩ | ⟨rfl, -⟩ <;> decide

/-- A step of the kind of a supervisory event is ready as such or not at all. -/
theorem mem_readySteps_supervisory {s : State} {c : Instr} (h : precedence (kindOf c) ≤ 5) :
    c ∈ readySteps s ↔ readySupervisory s = some c := by
  rw [mem_readySteps]
  refine ⟨fun hready => ?_, .inl⟩
  rcases hready with hready | ⟨-, rfl⟩ | ⟨-, rfl⟩ | ⟨-, rfl⟩ | hready | hready
  · exact hready
  · exact absurd h (by decide)
  · exact absurd h (by simp [kindOf, precedence])
  · exact absurd h (by decide)
  · rw [(readyChain_kind hready).1] at h
    exact absurd h (by decide)
  · rw [readyCommand_kind hready] at h
    exact absurd h (by decide)

theorem mem_readySteps_chain {s : State} {c : Instr} (hkind : kindOf c = .identify) (hchain : c ≠ .selectionStep) :
    c ∈ readySteps s ↔ readyChain s = some c := by
  rw [mem_readySteps]
  refine ⟨fun hready => ?_, fun h => .inr (.inr (.inr (.inr (.inl h))))⟩
  rcases hready with hready | ⟨-, rfl⟩ | ⟨-, rfl⟩ | ⟨-, rfl⟩ | hready | hready
  · have hlow := readySupervisory_kind hready
    rw [hkind] at hlow
    exact absurd hlow (by decide)
  · cases hkind
  · cases hkind
  · exact absurd rfl hchain
  · exact hready
  · rw [readyCommand_kind hready] at hkind
    cases hkind

theorem timebaseTick_ready (s : State) : .timebaseTick ∈ readySteps s ↔ TickReady s ∧ s.tk.interval ≤ s.tk.prescaler := by
  rw [mem_readySteps]
  refine ⟨fun hready => ?_, fun h => .inr (.inl ⟨h, rfl⟩)⟩
  rcases hready with hready | ⟨h, -⟩ | ⟨-, h⟩ | ⟨-, h⟩ | hready | hready
  · exact absurd (readySupervisory_kind hready) (by decide)
  · exact h
  · cases h
  · cases h
  · exact absurd (readyChain_kind hready).1 (by decide)
  · exact absurd (readyCommand_kind hready) (by decide)

theorem scanPass_ready (seen : BitVec 128) (s : State) :
    .scanPass seen ∈ readySteps s ↔ PassReady s ∧ s.scan.ready = true ∧ seen = (seenPins s).matrix := by
  rw [mem_readySteps]
  refine ⟨fun hready => ?_, fun ⟨hpass, hdue, hseen⟩ => .inr (.inr (.inl ⟨⟨hpass, hdue⟩, by rw [hseen]⟩))⟩
  rcases hready with hready | ⟨-, h⟩ | ⟨⟨hpass, hdue⟩, h⟩ | ⟨-, h⟩ | hready | hready
  · exact absurd (readySupervisory_kind hready) (by simp [kindOf, precedence])
  · cases h
  · cases h
    exact ⟨hpass, hdue, rfl⟩
  · cases h
  · exact absurd (readyChain_kind hready).1 (by simp [kindOf])
  · exact absurd (readyCommand_kind hready) (by simp [kindOf])

/-- No request of this LSI itself is ready while none waits. -/
theorem requests_not_ready {s : State} (h : s.sup.request = none) : softReady s = false ∧ hostSideReady s = false := by
  simp [softReady, hostSideReady, h]

theorem haltDetection_waits {s : State} (hlegal : RequestLegal s) (h : .haltDetection ∈ readySteps s) :
    Runs s ∧ s.sup.haltReady = true := by
  obtain ⟨hsoft, hhost, hdue⟩ : softReady s = false ∧ hostSideReady s = false ∧ haltDue s = true := by
    simpa using readySupervisory_eq_some ((mem_readySteps_supervisory (by decide)).1 h)
  obtain ⟨hpower, hphase, hcut, hready⟩ := (haltDue_iff s).1 hdue
  rw [← Bool.not_eq_true, softReady_iff] at hsoft
  rw [← Bool.not_eq_true, hostSideReady_iff] at hhost
  refine ⟨⟨hpower, hphase, ?_, hcut⟩, hready⟩
  obtain hnone | hsome | hsome | hsome := hlegal
  · exact hnone
  · exact absurd ⟨hpower, hsome, hcut⟩ hsoft
  · exact absurd ⟨hpower, hphase, hcut, .inl hsome⟩ hhost
  · exact absurd ⟨hpower, hphase, hcut, .inr hsome⟩ hhost

theorem haltDetection_ready {s : State} (hr : Runs s) (hready : s.sup.haltReady = true)
    (hrelease : ¬ (PortClosed s ∧ StretchOver s)) : .haltDetection ∈ readySteps s := by
  obtain ⟨hpower, hphase, hrequest, hcut⟩ := hr
  obtain ⟨hsoft, hhost⟩ := requests_not_ready hrequest
  have hnorelease : ¬ releaseReady s = true := (releaseReady_iff s).not.2 hrelease
  have hnosequence : ¬ fullResetReady s = true := fun h => hphase ((fullResetReady_iff s).1 h).2.1
  have hdue : haltDue s = true := (haltDue_iff s).2 ⟨hpower, hphase, hcut, hready⟩
  rw [mem_readySteps_supervisory (by decide)]
  simp [readySupervisory, hsoft, hhost, hnorelease, hnosequence, hdue]

theorem nhrstRelease_ready (s : State) : .nhrstRelease ∈ readySteps s ↔ PortClosed s ∧ StretchOver s := by
  rw [mem_readySteps_supervisory (by decide), ← releaseReady_iff]
  refine ⟨fun h => by simpa using readySupervisory_eq_some h, fun h => ?_⟩
  obtain ⟨hsoft, hhost⟩ := requests_not_ready ((releaseReady_iff s).1 h).1.1.2.2.1
  simp [readySupervisory, hsoft, hhost, h]

theorem chain_ready (s : State) (c : ChainCycle) :
    (CycleIn s c .presence →
      (.presence ∈ readySteps s ↔ s.env.pins.chdLow = true) ∧
      (.answerWindowTimeout ∈ readySteps s ↔ s.env.pins.chdLow = false ∧ 64 * 32 ≤ c.time)) ∧
    (CycleIn s c .release →
      (.presenceReleased ∈ readySteps s ↔ s.env.pins.chdLow = false) ∧
      (.presenceStuckTimeout ∈ readySteps s ↔ s.env.pins.chdLow = true ∧ 64 * 32 ≤ c.time)) ∧
    (CycleIn s c .shift → ∀ bits, .identityShiftEnd bits ∈ readySteps s ↔ bits = c.bits ∧ (2 + 9) * 32 ≤ c.time) ∧
    ∀ o, CycleIn s c (.settling o) → (.chainCycleCompletion ∈ readySteps s ↔ 4 * 32 ≤ c.time) := by
  have hphase {phase : ChainPhase} (h : CycleIn s c phase) : runningCycle s = some c ∧ c.phase = phase :=
    ⟨runningCycle_iff.2 ⟨h.1, h.2.1, h.2.2.1, rfl⟩, h.2.2.2⟩
  refine ⟨fun h => ?_, fun h => ?_, fun h bits => ?_, fun o h => ?_⟩ <;> obtain ⟨hcycle, hp⟩ := hphase h
  · rw [mem_readySteps_chain rfl (by simp), mem_readySteps_chain rfl (by simp), readyChain, hcycle]
    cases hlow : s.env.pins.chdLow <;> simp [hp]
  · rw [mem_readySteps_chain rfl (by simp), mem_readySteps_chain rfl (by simp), readyChain, hcycle]
    cases hlow : s.env.pins.chdLow <;> simp [hp]
  · rw [mem_readySteps_chain rfl (by simp), readyChain, hcycle]
    simp [hp, eq_comm, and_comm]
  · rw [mem_readySteps_chain rfl (by simp), readyChain, hcycle]
    simp [hp]

theorem command_ready {code : Byte} {s : State} (h : Started code s) :
    (commandOf code).getD .badCommand ∈ readySteps s := by
  obtain ⟨hr, hbusy, hcode⟩ := h
  refine mem_readySteps.2 (.inr (.inr (.inr (.inr (.inr ?_)))))
  simp [readyCommand, mainRunning_of_runs hr, hbusy, hcode]

/-- Settles O60: a CLK period moves the counters, and each step is ready when its test says so. -/
theorem countersBringTheNextStep : Obligations.CountersBringTheNextStep := by
  have htable : ∀ r ∈ commandTable, commandOf r.1 = some r.2 := by decide
  refine ⟨clkPasses_clkPeriod, timebaseTick_ready, scanPass_ready, fun s => haltDetection_waits,
    fun s => haltDetection_ready, nhrstRelease_ready, chain_ready, fun code s h => ⟨fun c hc => ?_, fun hnone => ?_⟩,
    fun l s h => ?_, fun s hpower hphase hcut => ⟨fun hrequest => ?_, fun hrequest => ?_⟩,
    fun s => ⟨fun r hwaits hrequest => ?_, fun cut hcut => ?_⟩⟩
  · simpa [htable _ hc] using command_ready h
  · simpa [commandOf_eq_none hnone] using command_ready h
  · obtain ⟨hr, hstate, hcycle, -⟩ := h
    exact mem_readySteps.2 (.inr (.inr (.inr (.inl ⟨⟨hr, hstate, hcycle⟩, rfl⟩))))
  · have hsoft := (softReady_iff s).2 ⟨hpower, hrequest, hcut⟩
    rw [mem_readySteps_supervisory (by decide), readySupervisory, if_pos hsoft]
  · have hhost := (hostSideReady_iff s).2 ⟨hpower, hphase, hcut, hrequest⟩
    have hsoft : ¬ softReady s = true := by
      rw [softReady_iff]
      rintro ⟨-, hr, -⟩
      simp [hr] at hrequest
    rw [mem_readySteps_supervisory (by decide), readySupervisory, if_neg hsoft, if_pos hhost]
  · obtain ⟨hpower, hheld, hcut, -, hpin, hosc⟩ := hwaits
    obtain ⟨hsoft, hhost⟩ := requests_not_ready hrequest
    have hrelease : ¬ releaseReady s = true := fun h => ((releaseReady_iff s).1 h).1.1.2.1 hheld
    have hready := (fullResetReady_iff s).2 ⟨hpower, hheld, hcut, hosc, hpin⟩
    rw [mem_readySteps_supervisory (by decide)]
    simp [readySupervisory, hsoft, hhost, hrelease, hready]
  · have hready := readySupervisory_eq_some ((mem_readySteps_supervisory (by simp [kindOf, precedence])).1 hcut)
    obtain ⟨rfl, hsequence⟩ : cut = none ∧ fullResetReady s = true := by simpa using hready
    obtain ⟨hpower, hheld, -, hosc, hpin⟩ := (fullResetReady_iff s).1 hsequence
    exact ⟨rfl, hpower, hheld, hpin, hosc⟩

end Sys2Proof.Machine
end

section
-- One lemma at a time: elaborated side by side they ask for more threads than the memory limit of the check leaves.
set_option Elab.async false
/-!
PROOF. The arrival of a command in the queue (R4, R5, R7): its place, and what it discards or is discarded by.
-/

namespace Sys2Proof.Machine

/-! ### What the model's tests of an arrival say -/

theorem discardedByReset_iff (c : Instr) : discardedByReset (kindOf c) = true ↔ MainDomainStep c := by
  unfold MainDomainStep
  cases kindOf c <;> simp [discardedByReset]

theorem mainDomainStep_ne_halt {c : Instr} (h : MainDomainStep c) : c ≠ .haltDetection := by
  rintro rfl
  rcases h with h | h | h | h <;> cases h

theorem beginsReset_eq_some (s : State) (c : Instr) (full : Bool) : beginsReset s c = some full ↔ Begins s full c := by
  cases c <;> cases full <;> simp [beginsReset, Begins, softReady_iff, hostSideReady_iff, or_iff_not_imp_left]

theorem beginsReset_eq_none (s : State) (c : Instr) : beginsReset s c = none ↔ ∀ full, ¬ Begins s full c := by
  simp [← beginsReset_eq_some, Option.eq_none_iff_forall_ne_some]

theorem sequence_iff (c : Instr) : kindOf c = .sequence ↔ ∃ cut, c = .fullResetSequence cut := by
  cases c <;> simp [kindOf]

theorem endsPartOne_iff (s : State) (c : Instr) : EndsPartOne s c ↔ kindOf c = .sequence ∧ heldInReset s = true := by
  rw [EndsPartOne, sequence_iff]
  simp [heldInReset]

/-- The step that ends part 1 begins no reset. -/
theorem not_begins_of_endsPartOne {s : State} {c : Instr} (h : EndsPartOne s c) : beginsReset s c = none := by
  obtain ⟨⟨cut, rfl⟩, -⟩ := h
  rfl

theorem resetDiscards_iff (s : State) (c d : Instr) : resetDiscards s c d = true ↔
    (MainDomainStep d ∧ (EndsPartOne s c ∨ ∃ full, Begins s full c)) ∨ (d = .haltDetection ∧ Begins s true c) := by
  unfold resetDiscards
  cases hbegins : beginsReset s c with
  | none =>
    have hnone := (beginsReset_eq_none s c).1 hbegins
    simp [hnone, endsPartOne_iff, discardedByReset_iff, and_comm]
  | some full =>
    have hsome := (beginsReset_eq_some s c full).1 hbegins
    have hends : ¬ EndsPartOne s c := fun h => by simp [not_begins_of_endsPartOne h] at hbegins
    have hfull : Begins s true c ↔ full = true := by
      rw [← beginsReset_eq_some, hbegins, Option.some.injEq]
    have hany : ∃ full, Begins s full c := ⟨full, hsome⟩
    simp [hends, hfull, hany, discardedByReset_iff, and_comm]

theorem stopsScanning_iff (c : Instr) : stopsScanning c = true ↔ WritesStop c := by
  cases c <;> simp [stopsScanning, WritesStop]

theorem endsPasses_iff (c : Instr) : endsPasses c = true ↔ WritesStop c ∨ c = .haltDetection := by
  simp [endsPasses, stopsScanning_iff]

theorem passesEnded_iff (q : List Instr) : passesEnded q = true ↔ PassesEnded q := by
  simp [passesEnded, PassesEnded, stopsScanning_iff]

theorem discardedOnArrival_iff (s : State) (c : Instr) : discardedOnArrival s c = true ↔ DiscardedOnArrival s c := by
  simp only [discardedOnArrival, DiscardedOnArrival, Bool.or_eq_true, List.any_eq_true, Bool.and_eq_true, beq_iff_eq,
    passesEnded_iff, resetDiscards_iff, ← or_assoc]
  refine or_congr_left ⟨?_, ?_⟩
  · rintro ⟨d, hd, ⟨hmain, h⟩ | ⟨rfl, h⟩⟩
    · exact .inl ⟨hmain, d, hd, h⟩
    · exact .inr ⟨rfl, d, hd, h⟩
  · rintro (⟨hmain, d, hd, h⟩ | ⟨rfl, d, hd, h⟩)
    · exact ⟨d, hd, .inl ⟨hmain, h⟩⟩
    · exact ⟨d, hd, .inr ⟨rfl, h⟩⟩

theorem discardedBy_iff (s : State) (c d : Instr) : discardedBy s c d = true ↔
    resetDiscards s c d = true ∨ ((WritesStop c ∨ c = .haltDetection) ∧ kindOf d = .scanPass) := by
  simp [discardedBy, endsPasses_iff]

/-! ### The queue after an arrival -/

theorem submit_of_discarded {c : Instr} {s : State} (h : DiscardedOnArrival s c) : State.submit c s = s :=
  if_pos ((discardedOnArrival_iff s c).2 h)

theorem submit_pending {c : Instr} {s : State} (h : ¬ DiscardedOnArrival s c) :
    (State.submit c s).pending = insertByPrecedence c (s.pending.filter (fun d => !discardedBy s c d)) := by
  unfold State.submit
  rw [if_neg ((discardedOnArrival_iff s c).not.2 h)]

theorem mem_insertByPrecedence (c d : Instr) (q : List Instr) : d ∈ insertByPrecedence c q ↔ d = c ∨ d ∈ q := by
  obtain ⟨before, after, hq, hinsert, -⟩ := insertByPrecedence_split c q
  rw [hinsert, hq]
  simp only [List.mem_append, List.mem_cons]
  tauto

theorem mem_submit {c : Instr} {s : State} (h : ¬ DiscardedOnArrival s c) (d : Instr) :
    d ∈ (State.submit c s).pending ↔ d = c ∨ (d ∈ s.pending ∧ ¬ discardedBy s c d = true) := by
  rw [submit_pending h, mem_insertByPrecedence, List.mem_filter, Bool.not_eq_true']
  simp

/-- An ordered queue stays ordered: the arriving command has those of its own and higher precedence before it and those of
lower precedence after it. -/
theorem insertByPrecedence_ordered {c : Instr} {q : List Instr} (h : QueueOrdered q) :
    QueueOrdered (insertByPrecedence c q) ∧ ∃ before after, insertByPrecedence c q = before ++ c :: after ∧
      before ++ after = q ∧ (∀ d ∈ before, precedence (kindOf d) ≤ precedence (kindOf c)) ∧
      ∀ d ∈ after, precedence (kindOf c) < precedence (kindOf d) := by
  obtain ⟨before, after, hq, hinsert, hbefore, hhead⟩ := insertByPrecedence_split c q
  rw [hq, QueueOrdered, List.pairwise_append] at h
  obtain ⟨hb, ha, hcross⟩ := h
  have hafter : ∀ d ∈ after, precedence (kindOf c) < precedence (kindOf d) := by
    cases after with
    | nil => simp
    | cons e rest =>
      have he := hhead e rfl
      intro d hd
      obtain rfl | hd := List.mem_cons.1 hd
      · exact he
      · exact he.trans_le ((List.pairwise_cons.1 ha).1 d hd)
  refine ⟨?_, before, after, hinsert, hq.symm, hbefore, hafter⟩
  rw [hinsert, QueueOrdered, List.pairwise_append]
  refine ⟨hb, List.pairwise_cons.2 ⟨fun d hd => (hafter d hd).le, ha⟩, fun x hx y hy => ?_⟩
  obtain rfl | hy := List.mem_cons.1 hy
  · exact hbefore x hx
  · exact hcross x hx y hy

/-! ### What begins a reset is of a supervisory kind -/

theorem begins_kind {s : State} {c : Instr} {full : Bool} (h : Begins s full c) :
    kindOf c = .fullReset ∨ kindOf c = .power ∨ kindOf c = .hostSideReset := by
  cases full
  · obtain ⟨⟨cut, rfl⟩, -⟩ := h
    exact .inr (.inr rfl)
  · rcases h with ⟨rfl, -⟩ | ⟨rfl, -⟩ | ⟨rfl, -⟩ | ⟨rfl, -⟩
    · exact .inl rfl
    · exact .inl rfl
    · exact .inr (.inl rfl)
    · exact .inr (.inl rfl)

theorem endsPasses_kind {c : Instr} (h : WritesStop c ∨ c = .haltDetection) :
    kindOf c = .hostAccess ∨ kindOf c = .halt := by
  rcases h with (rfl | rfl | rfl) | rfl
  · exact .inl rfl
  · exact .inl rfl
  · exact .inl rfl
  · exact .inr rfl

/-- Supervisory events other than a halt detection are never discarded on arrival. -/
theorem not_discardedOnArrival {s : State} {c : Instr} (hkind : precedence (kindOf c) ≤ 4) : ¬ DiscardedOnArrival s c := by
  rintro (⟨hmain, -⟩ | ⟨rfl, -⟩ | ⟨hpass, -⟩)
  · rcases hmain with h | h | h | h <;> rw [h] at hkind <;> exact absurd hkind (by decide)
  · exact absurd hkind (by decide)
  · rw [hpass] at hkind
    exact absurd hkind (by decide)

/-- A supervisory event other than a halt detection ends no scan passes by itself. -/
theorem not_endsPasses {c : Instr} (hkind : precedence (kindOf c) ≤ 4) : ¬ (WritesStop c ∨ c = .haltDetection) := by
  intro h
  rcases endsPasses_kind h with h | h <;> rw [h] at hkind <;> exact absurd hkind (by decide)

/-- What waits after the arrival of a supervisory event other than a halt detection. -/
theorem mem_submit_supervisory {s : State} {c : Instr} (hkind : precedence (kindOf c) ≤ 4) (d : Instr) :
    d ∈ (State.submit c s).pending ↔ d = c ∨ (d ∈ s.pending ∧ ¬ resetDiscards s c d = true) := by
  rw [mem_submit (not_discardedOnArrival hkind), discardedBy_iff]
  simp [not_endsPasses hkind]

theorem begins_precedence {s : State} {c : Instr} {full : Bool} (h : Begins s full c) : precedence (kindOf c) ≤ 4 := by
  rcases begins_kind h with hk | hk | hk <;> rw [hk] <;> decide

theorem begins_unique {s : State} {c : Instr} {a b : Bool} (ha : Begins s a c) (hb : Begins s b c) : a = b := by
  rw [← beginsReset_eq_some] at ha hb
  exact Option.some.inj (ha.symm.trans hb)

/-- Settles O4: the place of an arriving command, and the discards one by one. -/
theorem arrivalKeepsPrecedenceAndResetDiscards : Obligations.ArrivalKeepsPrecedenceAndResetDiscards := by
  refine ⟨fun c s hordered harrives => ?_, fun c s => submit_of_discarded, fun c full s hbegins d => ?_,
    fun c s hends d => ?_, fun s hheld d => ?_⟩
  · have hfiltered : QueueOrdered (s.pending.filter (fun d => !discardedBy s c d)) := List.Pairwise.filter _ hordered
    obtain ⟨hkept, before, after, hplace, hrest, hbefore, hafter⟩ := insertByPrecedence_ordered (c := c) hfiltered
    rw [submit_pending harrives]
    refine ⟨hkept, before, after, hplace, hbefore, hafter, hrest ▸ List.filter_sublist, fun hreset hends hstop => ?_,
      fun hstop => ?_⟩
    · rw [hrest, List.filter_eq_self]
      intro d _
      have hkeeps : ¬ discardedBy s c d = true := by
        rw [discardedBy_iff, resetDiscards_iff]
        rintro ((⟨-, h | ⟨full, h⟩⟩ | ⟨-, h⟩) | ⟨h, -⟩)
        · exact hends h
        · exact hreset full h
        · exact hreset true h
        · exact hstop h
      simpa using hkeeps
    · have hkind := endsPasses_kind hstop
      have hnone (full : Bool) : ¬ Begins s full c := fun h => by
        rcases begins_kind h with hb | hb | hb <;> rw [hb] at hkind <;> simp at hkind
      have hnoend : ¬ EndsPartOne s c := fun h => by
        rw [((endsPartOne_iff s c).1 h).1] at hkind
        simp at hkind
      rw [hrest]
      refine List.filter_congr fun d _ => ?_
      have hreset : ¬ resetDiscards s c d = true := by
        rw [resetDiscards_iff]
        rintro (⟨-, h | ⟨full, h⟩⟩ | ⟨-, h⟩)
        · exact hnoend h
        · exact hnone full h
        · exact hnone true h
      have hdiscards : discardedBy s c d = true ↔ kindOf d = .scanPass := by
        rw [discardedBy_iff]
        simp [hreset, hstop]
      rw [Bool.eq_iff_iff]
      simp [← Bool.not_eq_true, hdiscards]
  · rw [mem_submit_supervisory (begins_precedence hbegins), resetDiscards_iff]
    have htrue : Begins s true c ↔ full = true :=
      ⟨fun h => begins_unique hbegins h, fun h => h ▸ hbegins⟩
    have hany : ∃ full, Begins s full c := ⟨full, hbegins⟩
    simp only [htrue, hany, or_true, and_true]
    tauto
  · have hnone : ∀ full, ¬ Begins s full c := (beginsReset_eq_none s c).1 (not_begins_of_endsPartOne hends)
    have hkind := ((endsPartOne_iff s c).1 hends).1
    rw [mem_submit_supervisory (by rw [hkind]; decide), resetDiscards_iff]
    simp [hnone, hends]
  · have hnone : beginsReset s .nreset = none := by
      rcases hheld with h | h <;> simp [beginsReset, h]
    have hkeeps : ¬ resetDiscards s .nreset d = true := by simp [resetDiscards, hnone, kindOf]
    rw [mem_submit_supervisory (by decide)]
    simp [hkeeps]

end Sys2Proof.Machine
end

section
-- One lemma at a time: elaborated side by side they ask for more threads than the memory limit of the check leaves.
set_option Elab.async false
/-!
PROOF. The wake flag with the ALARM latch, and nINT with the eligible levels, through every step (R102, R149).
-/

namespace Sys2Proof.Machine

/-! ### The supervisory steps -/

/-- The own work of a supervisory step, in a state in which it takes place (R174, R176 to R178, R180). -/
inductive SupervisoryWork (s : State) : Instr → (State → State) → Prop where
  | pin (h : s.sup.power = .mainOn) : SupervisoryWork s .nreset pinReset
  | soft (h : softReady s = true) : SupervisoryWork s .softFullReset (fun s => enterPartOne (inProgress s) s)
  | brownOut (h : s.sup.power = .mainOn) : SupervisoryWork s .brownOutEntry enterBrownOut
  | mainOn (h : s.sup.power = .brownOut ∨ s.sup.power = .batteryOnly) : SupervisoryWork s .returnToMainOn enterMainOn
  | loss (h : s.sup.power = .brownOut) : SupervisoryWork s .vddLoss loseVdd
  | below (h : s.sup.power = .batteryOnly ∨ s.sup.power = .dead) :
      SupervisoryWork s .vddBelowBrownOutLevel enterFromBelow
  | batteryLoss (h : s.sup.power = .batteryOnly) :
      SupervisoryWork s .vbatLoss (fun s => setVbat false { s with sup := { s.sup with power := .dead } })
  | batteryStart (h : s.sup.power = .dead) : SupervisoryWork s .vbatPresent (fun s =>
      let s' := startBattery (setVbat true s)
      { s' with sup := { s'.sup with power := .batteryOnly } })
  | sequence (cut : Option Nat) (h : fullResetReady s = true) :
      SupervisoryWork s (.fullResetSequence cut) (fullResetBody cut)
  | hostSide (cut : Option Nat) (h : hostSideReady s = true) : SupervisoryWork s (.hostSideReset cut) (hostSideBody cut)
  | release (h : releaseReady s = true) : SupervisoryWork s .nhrstRelease releaseHost

/-- A supervisory command takes place as a whole step with its own work, is an event of VBAT with VDD present, or changes
nothing. -/
theorem exec_supervisory {c : Instr} {s t : State} (ht : exec c s = .next t)
    (hc : kindOf c = .power ∨ kindOf c = .fullReset ∨ kindOf c = .hostSideReset ∨ kindOf c = .sequence ∨
      kindOf c = .release) :
    t = s ∨ ((c = .vbatLoss ∨ c = .vbatPresent) ∧ ∃ b, t = setVbat b s) ∨
      ∃ body, SupervisoryWork s c body ∧ t = endStep (body (samplePins s)) := by
  have htaken {p : Prop} [Decidable p] {body : State → State} (hwork : p → SupervisoryWork s c body)
      (h : (Host.Outcome.next (if p then stepOf body s else s) : Host.Outcome State Fault Refusal) = .next t) :
      t = s ∨ ((c = .vbatLoss ∨ c = .vbatPresent) ∧ ∃ b, t = setVbat b s) ∨
        ∃ body, SupervisoryWork s c body ∧ t = endStep (body (samplePins s)) := by
    obtain hidle | ⟨hp, ht⟩ := takes_or_stays h
    · exact .inl hidle
    · exact .inr (.inr ⟨body, hwork hp, ht⟩)
  cases c
  case nreset => exact htaken .pin ht
  case softFullReset => exact htaken .soft ht
  case brownOutEntry => exact htaken .brownOut ht
  case returnToMainOn => exact htaken .mainOn ht
  case vddLoss => exact htaken .loss ht
  case vddBelowBrownOutLevel => exact htaken .below ht
  case fullResetSequence cut => exact htaken (.sequence cut) ht
  case hostSideReset cut => exact htaken (.hostSide cut) ht
  case nhrstRelease => exact htaken .release ht
  case vbatLoss =>
    cases ht
    split
    · next hpower => exact .inr (.inr ⟨_, .batteryLoss hpower, rfl⟩)
    · exact .inr (.inl ⟨.inl rfl, _, rfl⟩)
  case vbatPresent =>
    cases ht
    split
    · next hpower => exact .inr (.inr ⟨_, .batteryStart hpower, rfl⟩)
    · exact .inr (.inl ⟨.inr rfl, _, rfl⟩)
  all_goals simp [kindOf] at hc

/-! ### What nINT reads -/

/-- From `s` to `t` nothing that the eligible levels and nINT depend on has changed, and nINT neither. -/
structure KeepsLevels (s t : State) : Prop where
  levels : t.lv = s.lv
  records : t.tq.records = s.tq.records
  config : t.cfg = s.cfg
  fault : t.fault = s.fault
  power : t.sup.power = s.sup.power
  phase : t.sup.phase = s.sup.phase

theorem KeepsLevels.refl (s : State) : KeepsLevels s s := ⟨rfl, rfl, rfl, rfl, rfl, rfl⟩

theorem KeepsLevels.eligible {s t : State} (h : KeepsLevels s t) (l : Level) : eligible t l = eligible s l := by
  have hpending := levelPending_congr (s := s) (t := t) (by rw [h.levels]) (by rw [h.levels]) (by rw [h.levels])
    (by rw [h.levels]; exact ⟨rfl, rfl⟩) h.records h.config h.fault l
  simp only [Machine.eligible, hpending, h.levels, aboveTop]

theorem KeepsLevels.interruptLine {s t : State} (h : KeepsLevels s t) : interruptLine t = interruptLine s := by
  have hhighest : highestEligible t = highestEligible s := by
    rw [highestEligible, highestEligible, funext h.eligible]
  rw [Machine.interruptLine, Machine.interruptLine, hhighest, h.power, h.phase]

theorem KeepsLevels.interruptFollows {s t : State} (h : KeepsLevels s t) (hs : InterruptFollows s) : InterruptFollows t := by
  rw [InterruptFollows, h.levels, h.interruptLine]
  exact hs

theorem Frame.keepsLevels {parts : List Part} {s t : State} (h : Frame parts s t)
    (hlevels : ∀ p ∈ [Part.latches, .routes, .enables, .soft, .switch, .stack], p ∉ parts := by decide)
    (hrecords : Part.records ∉ parts := by decide) (hconfig : Part.config ∉ parts := by decide)
    (hfault : Part.fault ∉ parts := by decide) (hpower : Part.power ∉ parts := by decide) : KeepsLevels s t :=
  ⟨h.lv_eq hlevels, h.same _ hrecords, h.same _ hconfig, h.same _ hfault, (h.same _ hpower).1, (h.same _ hpower).2.1⟩

theorem KeepsLevels.trans {s t u : State} (hst : KeepsLevels s t) (htu : KeepsLevels t u) : KeepsLevels s u :=
  ⟨htu.levels.trans hst.levels, htu.records.trans hst.records, htu.config.trans hst.config, htu.fault.trans hst.fault,
    htu.power.trans hst.power, htu.phase.trans hst.phase⟩

theorem keepsLevels_samplePins (s : State) : KeepsLevels s (samplePins s) := by
  rw [samplePins_eq]
  exact ⟨rfl, rfl, rfl, rfl, rfl, rfl⟩

/-! ### A command ends with the evaluation of nINT, or changes nothing that nINT reads -/

/-- How a command leaves nINT: set at the end of its step, or as it was with all that it reads. -/
def EndsOrKeeps (s t : State) : Prop := (∃ u, t = endStep u) ∨ KeepsLevels s t

theorem interruptFollows_of_endsOrKeeps {s t : State} (h : EndsOrKeeps s t) (hs : InterruptFollows s) :
    InterruptFollows t := by
  obtain ⟨u, rfl⟩ | hkeeps := h
  · exact endStep_nint u
  · exact hkeeps.interruptFollows hs

theorem endsOrKeeps_hostAccess {c : Instr} {s t : State} (hc : kindOf c = .hostAccess) (ht : exec c s = .next t) :
    EndsOrKeeps s t := by
  obtain ⟨-, act, -, hexec⟩ | ⟨-, value, effect, -, hexec⟩ := exec_hostAccess hc <;> rw [hexec] at ht <;> cases ht
  · obtain ⟨-, hw⟩ | ⟨-, hw⟩ | hw := hostWrite_cases act s <;> rw [hw]
    · exact .inl ⟨_, rfl⟩
    · exact .inl ⟨_, rfl⟩
    · exact .inr (.refl s)
  · obtain ⟨-, hr⟩ | ⟨-, hr⟩ | hr | hr := hostRead_cases value effect s <;> rw [hr]
    · exact .inl ⟨_, rfl⟩
    · exact .inl ⟨_, rfl⟩
    · exact .inr (driveBus_frame 0 s).keepsLevels
    · exact .inr (.refl s)

theorem endsOrKeeps_chainEvent {phase : ChainPhase} {act : ChainCycle → State → State} {s : State}
    (hact : ∀ c, KeepsLevels s (act c s)) : EndsOrKeeps s (chainEvent phase act s) := by
  obtain hidle | ⟨c, -, hevent⟩ := chainEvent_cases phase act s
  · rw [hidle]
    exact .inr (.refl s)
  · rw [hevent]
    exact .inr (hact c)

theorem endsOrKeeps_identify {c : Instr} {s t : State} (hc : kindOf c = .identify) (ht : exec c s = .next t) :
    EndsOrKeeps s t := by
  cases c
  case selectionStep =>
    obtain rfl | ⟨-, rfl⟩ := exec_selectionStep ht
    · exact .inr (.refl _)
    · exact .inl ⟨_, rfl⟩
  case chainCycleCompletion =>
    obtain rfl | ⟨c, o, -, rfl⟩ := exec_chainCycleCompletion ht
    · exact .inr (.refl _)
    · exact .inl ⟨_, rfl⟩
  case presence => cases ht; exact endsOrKeeps_chainEvent fun c => ⟨rfl, rfl, rfl, rfl, rfl, rfl⟩
  case presenceReleased => cases ht; exact endsOrKeeps_chainEvent fun c => ⟨rfl, rfl, rfl, rfl, rfl, rfl⟩
  case answerWindowTimeout => cases ht; exact endsOrKeeps_chainEvent fun c => ⟨rfl, rfl, rfl, rfl, rfl, rfl⟩
  case presenceStuckTimeout => cases ht; exact endsOrKeeps_chainEvent fun c => ⟨rfl, rfl, rfl, rfl, rfl, rfl⟩
  case identityShiftEnd bits => cases ht; exact endsOrKeeps_chainEvent fun c => ⟨rfl, rfl, rfl, rfl, rfl, rfl⟩
  all_goals cases hc

theorem endsOrKeeps_tickStep (s : State) : EndsOrKeeps s (tickStep s) := by
  unfold tickStep
  split
  · split
    · exact .inl ⟨_, rfl⟩
    · exact .inr ((keepsLevels_samplePins s).trans (tickItems_false_frame _).keepsLevels)
  · exact .inr (.refl s)

theorem detectHalt_frame (s : State) : Frame [.scanTimer, .halt] s (detectHalt s) :=
  Frame.ite (Frame.refl _ s) (enterHalted_frame s)

theorem resume_frame (s : State) :
    Frame [.halt] s { s with sup := { s.sup with detector := .watching 0, oscSeen := true } } := setDetector_frame _ _ s

theorem endsOrKeeps_halt {c : Instr} {s t : State} (hc : kindOf c = .halt) (ht : exec c s = .next t) : EndsOrKeeps s t := by
  cases c
  case haltDetection =>
    obtain rfl | ⟨-, -, rfl | ⟨-, -, rfl⟩⟩ := exec_haltDetection ht
    · exact .inr (.refl _)
    · exact .inr (detectHalt_frame s).keepsLevels
    · exact .inl ⟨_, rfl⟩
  case oscillatorResume =>
    cases ht
    exact .inr (Frame.ite (resume_frame s) (Frame.refl _ s)).keepsLevels
  all_goals cases hc

theorem endsOrKeeps_exec {c : Instr} {s t : State} (ht : exec c s = .next t) : EndsOrKeeps s t := by
  cases hc : kindOf c with
  | hostAccess => exact endsOrKeeps_hostAccess hc ht
  | command =>
    obtain hidle | ⟨-, -, v, -, hstep⟩ := exec_command hc s
    · rw [hidle] at ht
      cases ht
      exact .inr (.refl s)
    · rw [hstep] at ht
      cases ht
      exact .inl ⟨v, rfl⟩
  | identify => exact endsOrKeeps_identify hc ht
  | tick =>
    obtain hidle | htick := exec_tick hc s
    · rw [hidle] at ht
      cases ht
      exact .inr (.refl s)
    · rw [htick] at ht
      cases ht
      exact endsOrKeeps_tickStep s
  | scanPass =>
    obtain ⟨seen, rfl⟩ := scanPass_of_kind hc
    obtain rfl | ⟨-, rfl⟩ := exec_scanPass ht
    · exact .inr (.refl _)
    · exact .inl ⟨_, rfl⟩
  | halt => exact endsOrKeeps_halt hc ht
  | power | fullReset | hostSideReset | sequence | release =>
    obtain rfl | ⟨-, b, rfl⟩ | ⟨body, -, rfl⟩ := exec_supervisory ht (by simp [hc])
    · exact .inr (.refl _)
    · exact .inr ⟨rfl, rfl, rfl, rfl, rfl, rfl⟩
    · exact .inl ⟨_, rfl⟩

theorem keepsLevels_clkPeriod (s : State) : KeepsLevels s (clkPeriod s) :=
  (keepsLevels_samplePins s).trans (clkPeriod_frame s).keepsLevels

theorem interruptFollows_kept : KeptByEveryStep InterruptFollows :=
  keptByEveryStep (fun _ _ _ hs ht => interruptFollows_of_endsOrKeeps (endsOrKeeps_exec ht) hs)
    (fun s hs => (keepsLevels_clkPeriod s).interruptFollows hs) (fun _ _ h => h)

/-! ### The wake flag and the ALARM latch -/

/-- While the main domain goes on running and the wake flag is not newly set, only the ALARM latch must stay. -/
theorem WakeLatched.mono {s t : State} (h : WakeLatched s) (hruns : Runs t → Runs s) (hwake : t.tk.wake = true → s.tk.wake = true)
    (hlatch : s.lv.latches.getLsbD 6 = true → t.lv.latches.getLsbD 6 = true) : WakeLatched t :=
  fun hr hw => hlatch (h (hruns hr) (hwake hw))

theorem wakeLatched_of_not_runs {t : State} (h : ¬ Runs t) : WakeLatched t := fun hr => absurd hr h

theorem wakeLatched_setLatch {s : State} (h : WakeLatched s) (l : Latch) : WakeLatched (setLatch l s) :=
  h.mono id id fun hbit => by simp [setLatch, hbit]

theorem wakeLatched_endStep {s : State} (h : WakeLatched s) : WakeLatched (endStep s) := by
  have hsame (p : Part) (hp : p ∉ [Part.latches]) : p.same s (endStep s) := (endStep_changes s).2 p hp
  have hwake : (endStep s).tk.wake = s.tk.wake := hsame .wake (by decide)
  refine h.mono (runs_congr (hsame _ (by decide)) (hsame _ (by decide)) (hsame _ (by decide))).1 (fun hw => hwake ▸ hw)
    fun hbit => ?_
  by_cases hrun : s.sup.power = .mainOn ∧ s.sup.phase ≠ .held
  · rw [endStep_main hrun.1 hrun.2, samplePower_eq]
    simp only
    split
    · simp [hbit]
    · exact hbit
  · rw [endStep_held (by tauto)]
    exact hbit

theorem wakeLatched_samplePins {s : State} (h : WakeLatched s) : WakeLatched (samplePins s) := by
  rw [samplePins_eq]
  exact h

theorem not_runs_requestReset (r : ResetReason) (s : State) : ¬ Runs (requestReset r s) := fun hr => by
  simpa [requestReset] using hr.2.2.1

theorem wakeLatched_offer {s : State} (h : WakeLatched s) (r : QRecord) : WakeLatched (offer r s) := by
  unfold offer
  split
  · exact h
  · exact wakeLatched_setLatch (s := { s with tq := _ }) h .queueOverflow

theorem wakeLatched_keptByWork : KeptByWork WakeLatched where
  sample _ := wakeLatched_samplePins
  finish _ := wakeLatched_endStep
  port _ _ h := h
  scanner _ _ h := h
  translator _ _ h := h
  repetition _ _ h := h
  latch _ l h := wakeLatched_setLatch h l
  faults _ _ h := h
  offer _ r h := wakeLatched_offer h r
  mark _ h := h
  request s r _ _ := wakeLatched_of_not_runs (not_runs_requestReset r s)
  alarm _ _ h := h
  battery _ _ h := h
  watchdog _ _ _ h := h
  stretch _ _ h := h
  complete s r out h := wakeLatched_setLatch (s := { s with mb := _ }) h .commandDone
  cut _ _ := wakeLatched_of_not_runs fun hr => by simpa [markCut] using hr.2.2.2

/-- Clearing the ALARM latch clears the wake flag with it (R149). -/
theorem wakeLatched_clear {s : State} (h : WakeLatched s) {mask : Half} {c : Prop} [Decidable c]
    (hmask : ¬ c → mask.getLsbD 6 = false) :
    WakeLatched (if c then clearWake (clearLatches mask s) else clearLatches mask s) := by
  split
  · exact fun _ hw => by simp [clearWake] at hw
  · next hc =>
    refine h.mono id id fun hbit => ?_
    have hkept := hmask hc
    rw [clearLatches, BitVec.getLsbD_and, BitVec.getLsbD_not, hbit, hkept]
    rfl

theorem wakeLatched_hostAction {act : State → State} (ha : HostAction act) {s : State} (h : WakeLatched s) :
    WakeLatched (act s) := by
  cases ha with
  | nothing | lamps | writeLatch | argument | takeHead | enables | disables | requests | withdraws => exact h
  | command d => exact KeptByWork.ite _ (t := capture _ _) h h
  | stopScan => exact KeptByWork.ite _ (t := forgetKeys _) h h
  | startScan | kick => exact KeptByWork.ite _ h h
  | switch d => exact KeptByWork.ite _ (t := { s with lv := _ }) h (KeptByWork.ite _ (t := { s with lv := _ }) h h)
  | release =>
    unfold releaseLevel
    split <;> exact h
  | sources d => exact wakeLatched_clear h fun hc => by simpa using hc
  | identify d =>
    unfold startIdentify
    split
    · exact h
    · split <;> exact h

theorem wakeLatched_readEffect {effect : State → State} (he : ReadEffect effect) {s : State} (h : WakeLatched s) :
    WakeLatched (effect s) := by
  cases he with
  | nothing | readLatch | lost | snapshot => exact h
  | accept =>
    unfold acceptLevel
    split <;> exact h

theorem wakeLatched_ownWork {c : Instr} {s t : State} (hw : OwnWork c s t) (h : WakeLatched s) : WakeLatched t := by
  cases hw with
  | request => exact wakeLatched_of_not_runs (not_runs_requestReset .soft s)
  | unhold => exact wakeLatched_setLatch (s := { s with tr := _ }) h .hold
  | _ => exact h

/-- The mask of an internal source other than ALARM leaves the ALARM latch (R116). -/
theorem sourceMask_alarm (n : Fin 15) (h : n.val ≠ 6) : ((1#16 <<< n.val) &&& latchedMask).getLsbD 6 = false := by
  revert n
  decide

theorem wakeLatched_selectionBody {s : State} (h : WakeLatched s) : WakeLatched (selectionBody s) := by
  have hstart (c : ChainClass) : WakeLatched (startCycle c s) := KeptByWork.ite _ (t := capture _ _) h h
  unfold selectionBody
  simp only
  split
  · exact KeptByWork.ite _ (t := postResult _ _ _) h h
  · next n _ =>
    refine KeptByWork.ite _ (hstart .a) (KeptByWork.ite _ (hstart .b) ?_)
    exact wakeLatched_clear h (sourceMask_alarm n)

theorem wakeLatched_chainEvent {phase : ChainPhase} {act : ChainCycle → State → State} {s : State} (h : WakeLatched s)
    (hact : ∀ c, WakeLatched (act c s)) : WakeLatched (chainEvent phase act s) := by
  obtain hidle | ⟨c, -, hevent⟩ := chainEvent_cases phase act s
  · rw [hidle]; exact h
  · rw [hevent]; exact hact c

theorem wakeLatched_identify {c : Instr} {s t : State} (hc : kindOf c = .identify) (h : WakeLatched s)
    (ht : exec c s = .next t) : WakeLatched t := by
  have hstart := wakeLatched_samplePins h
  cases c
  case selectionStep =>
    obtain rfl | ⟨-, rfl⟩ := exec_selectionStep ht
    · exact h
    · exact wakeLatched_endStep (wakeLatched_selectionBody hstart)
  case presence => cases ht; exact wakeLatched_chainEvent h fun c => h
  case presenceReleased => cases ht; exact wakeLatched_chainEvent h fun c => h
  case answerWindowTimeout => cases ht; exact wakeLatched_chainEvent h fun c => h
  case presenceStuckTimeout => cases ht; exact wakeLatched_chainEvent h fun c => h
  case identityShiftEnd bits => cases ht; exact wakeLatched_chainEvent h fun c => h
  case chainCycleCompletion =>
    obtain rfl | ⟨c, o, -, rfl⟩ := exec_chainCycleCompletion ht
    · exact h
    · exact wakeLatched_endStep hstart
  all_goals cases hc

/-- Own work that keeps the supervisor's power state, request and cut, the wake flag and the latches. -/
theorem Frame.wakeLatched {parts : List Part} {s t : State} (hf : Frame parts s t) (h : WakeLatched s)
    (hpower : Part.power ∉ parts := by decide) (hrequest : Part.request ∉ parts := by decide)
    (hcut : Part.cut ∉ parts := by decide) (hwake : Part.wake ∉ parts := by decide)
    (hlatches : Part.latches ∉ parts := by decide) : WakeLatched t := by
  have hw : t.tk.wake = s.tk.wake := hf.same _ hwake
  have hl : t.lv.latches = s.lv.latches := hf.same _ hlatches
  exact h.mono (runs_congr (hf.same _ hpower) (hf.same _ hrequest) (hf.same _ hcut)).1 (fun hx => hw ▸ hx) fun hx => hl ▸ hx

theorem wakeLatched_halt {c : Instr} {s t : State} (hc : kindOf c = .halt) (h : WakeLatched s)
    (ht : exec c s = .next t) : WakeLatched t := by
  have hdetected := (detectHalt_frame s).wakeLatched h
  cases c
  case haltDetection =>
    obtain rfl | ⟨-, -, rfl | ⟨-, -, rfl⟩⟩ := exec_haltDetection ht
    · exact h
    · exact hdetected
    · exact wakeLatched_endStep (wakeLatched_samplePins hdetected)
  case oscillatorResume =>
    cases ht
    exact KeptByWork.ite _ ((resume_frame s).wakeLatched h) h
  all_goals cases hc

/-! ### Resets -/

theorem wake_transferWake (s : State) (h : (transferWake s).tk.wake = true) : (transferWake s).lv.latches.getLsbD 6 = true := by
  unfold transferWake at h ⊢
  split
  · rw [setLatch, BitVec.getLsbD_or, (by rfl : (latchBit .alarm).getLsbD 6 = true), Bool.or_true]
  · next hw =>
    rw [if_neg hw] at h
    exact absurd h hw

/-- A reset sequence transfers the wake flag, or is cut short and leaves the main domain held (R149, R177). -/
theorem wakeLatched_supervisoryWork {c : Instr} {s : State} {body : State → State} (hw : SupervisoryWork s c body)
    (h : WakeLatched s) : WakeLatched (body (samplePins s)) := by
  have hheld {u : State} (hphase : u.sup.phase = .held) : WakeLatched u := wakeLatched_of_not_runs fun hr => hr.2.1 hphase
  have hoff {u : State} (hpower : u.sup.power ≠ .mainOn) : WakeLatched u := wakeLatched_of_not_runs fun hr => hpower hr.1
  cases hw with
  | pin =>
    unfold pinReset
    split
    · next hphase => exact hheld hphase
    · exact hheld rfl
  | soft | brownOut | mainOn | below => exact hheld rfl
  | loss =>
    refine hoff ?_
    simp only [loseVdd]
    split <;> simp
  | batteryLoss | batteryStart => exact hoff (by simp [setVbat])
  | sequence cut =>
    cases cut with
    | none =>
      have htransferred (u : State) (hu : u.tk.wake = true → u.lv.latches.getLsbD 6 = true) (c : Prop) [Decidable c] :
          (if c then clearTimeFlags u else u).tk.wake = true →
            (if c then clearTimeFlags u else u).lv.latches.getLsbD 6 = true := by
        split <;> exact hu
      exact fun _ => htransferred _ (wake_transferWake _) _
    | some k => exact hheld rfl
  | hostSide cut =>
    cases cut with
    | none => exact fun _ => wake_transferWake _
    | some k => exact hheld rfl
  | release hready =>
    have hruns := ((releaseReady_iff s).1 hready).1.1
    exact (wakeLatched_samplePins h).mono (fun _ => (runs_samplePins s).2 hruns) id id

theorem wakeLatched_exec {c : Instr} {s t : State} (h : WakeLatched s) (ht : exec c s = .next t) : WakeLatched t := by
  have hwork := wakeLatched_keptByWork
  cases hc : kindOf c with
  | hostAccess =>
    exact exec_hostAccess_keeps hwork (fun act ha s => wakeLatched_hostAction ha) (fun e he s => wakeLatched_readEffect he)
      (fun s hs => hs) hc h ht
  | command => exact hwork.command hc (fun u v => wakeLatched_ownWork) h ht
  | identify => exact wakeLatched_identify hc h ht
  | tick =>
    obtain hidle | htick := exec_tick hc s
    · rw [hidle] at ht; cases ht; exact h
    · rw [htick] at ht
      cases ht
      exact hwork.tickStep (fun u hu => hu) (fun u hheld _ => wakeLatched_of_not_runs hheld) h
  | scanPass =>
    obtain ⟨seen, rfl⟩ := scanPass_of_kind hc
    obtain rfl | ⟨-, rfl⟩ := exec_scanPass ht
    · exact h
    · exact wakeLatched_endStep (hwork.scanPassBody seen _ (wakeLatched_samplePins h))
  | halt => exact wakeLatched_halt hc h ht
  | power | fullReset | hostSideReset | sequence | release =>
    obtain rfl | ⟨-, b, rfl⟩ | ⟨body, hbody, rfl⟩ := exec_supervisory ht (by simp [hc])
    · exact h
    · exact h
    · exact wakeLatched_endStep (wakeLatched_supervisoryWork hbody h)

theorem wakeLatched_kept : KeptByEveryStep WakeLatched :=
  keptByEveryStep (fun _ _ _ => wakeLatched_exec)
    (fun s hs => (clkPeriod_frame s).wakeLatched (wakeLatched_samplePins hs)) (fun _ _ h => h)

/-- nINT as the levels, the power state and the phase give it (R102). -/
theorem interruptLine_iff (s : State) : interruptLine s = true ↔
    s.sup.power = .mainOn ∧ s.sup.phase = .run ∧ ∃ l, eligible s l = true := by
  have hsome : (highestEligible s).isSome = true ↔ ∃ l, eligible s l = true := by
    rw [Option.isSome_iff_ne_none, Ne, highestEligible_eq_none_iff]
    simp
  simp [interruptLine, hsome, and_assoc]

/-- Settles O58: the two properties are kept by every kind of step, and read as the manual says. -/
theorem everyStepKeepsWakeAndInterruptRight : Obligations.EveryStepKeepsWakeAndInterruptRight := by
  refine ⟨wakeLatched_kept, interruptFollows_kept, fun s => ?_, fun s => ?_⟩
  · rw [InterruptFollows, ← interruptLine_iff, Bool.eq_iff_iff]
  · simp [wakeOutput]

end Sys2Proof.Machine
end

section
-- One lemma at a time: elaborated side by side they ask for more threads than the memory limit of the check leaves.
set_option Elab.async false
/-!
PROOF. The two stages of a scan pass, position by position (R25 to R33).
-/

namespace Sys2Proof.Machine

/-! ### The table of positions -/

/-- The canonical form of the positions. -/
def PositionsCanonical (t : Table PosState) : Prop := Table.wf builtInPos 128 t = true

theorem positionsCanonical_set {t : Table PosState} (h : PositionsCanonical t) (p : Position) (st : PosState) :
    PositionsCanonical (Table.set builtInPos t p.val st) := Table.wf_set h p.isLt

theorem posOf_set {t : Table PosState} (h : PositionsCanonical t) (p q : Position) (st : PosState) :
    posOf (Table.set builtInPos t p.val st) q = if q = p then st else posOf t q := by
  rw [posOf, Table.get_set_wf h, posOf]
  simp only [Fin.val_inj]

/-! ### The release stage -/

/-- What the release stage makes of a position: its state, and whether it delivers a release event. -/
def releaseOf (s : State) (image : BitVec 128) (t : Table PosState) (p : Position) : PosState × Bool :=
  releaseChange (classOf s p == .unused) s.cfg.debounce.toNat (seenDown image p.val) (posOf t p)

theorem releaseAt_eq (s : State) (image : BitVec 128) (acc : Table PosState × List Position) (p : Position) :
    releaseAt s image acc p = (Table.set builtInPos acc.1 p.val (releaseOf s image acc.1 p).1,
      if (releaseOf s image acc.1 p).2 then acc.2 ++ [p] else acc.2) := rfl

/-- The release stage over some positions changes each of them on its own. -/
theorem releaseFold (s : State) (image : BitVec 128) {l : List Position} (hl : l.Nodup)
    {acc : Table PosState × List Position} (hwf : PositionsCanonical acc.1) :
    PositionsCanonical (l.foldl (releaseAt s image) acc).1 ∧
    (∀ p, posOf (l.foldl (releaseAt s image) acc).1 p = if p ∈ l then (releaseOf s image acc.1 p).1 else posOf acc.1 p) ∧
    (l.foldl (releaseAt s image) acc).2 = acc.2 ++ l.filter (fun p => (releaseOf s image acc.1 p).2) := by
  induction l generalizing acc with
  | nil => exact ⟨hwf, fun p => by simp, by simp⟩
  | cons p rest ih =>
    obtain ⟨hp, hrest⟩ := List.nodup_cons.1 hl
    have hwf' : PositionsCanonical (releaseAt s image acc p).1 := positionsCanonical_set hwf p _
    have hother {q : Position} (hq : q ≠ p) : posOf (releaseAt s image acc p).1 q = posOf acc.1 q := by
      rw [releaseAt_eq, posOf_set hwf, if_neg hq]
    have hsame {q : Position} (hq : q ≠ p) :
        releaseOf s image (releaseAt s image acc p).1 q = releaseOf s image acc.1 q := by
      rw [releaseOf, releaseOf, hother hq]
    obtain ⟨hkept, hpos, hreleases⟩ := ih hrest hwf'
    rw [List.foldl_cons]
    refine ⟨hkept, fun q => ?_, ?_⟩
    · rw [hpos]
      by_cases hq : q = p
      · subst hq
        rw [if_neg hp, if_pos List.mem_cons_self, releaseAt_eq, posOf_set hwf, if_pos rfl]
      · rw [hsame hq, hother hq]
        simp [hq]
    · rw [hreleases, List.filter_cons]
      have hfilter : rest.filter (fun q => (releaseOf s image (releaseAt s image acc p).1 q).2) =
          rest.filter (fun q => (releaseOf s image acc.1 q).2) :=
        List.filter_congr fun q hq => by rw [hsame (fun hqp => hp (hqp ▸ hq))]
      rw [hfilter, releaseAt_eq]
      split <;> simp

/-! ### The press stage -/

/-- The state in which an outcome of the press stage leaves a position. -/
def PressOutcome.state : PressOutcome → PosState
  | .quiet st => st
  | .press => .down
  | .blocked st => st

/-- An outcome of the press stage that is reported (R32). -/
def PressOutcome.reported : PressOutcome → Bool
  | .blocked _ => true
  | _ => false

/-- What the press stage makes of a position, on the positions so far. -/
def pressOf (s : State) (image : BitVec 128) (t : Table PosState) (p : Position) : PressOutcome :=
  pressChange (classOf s p == .unused) s.cfg.debounce.toNat (seenDown image p.val) (ambiguous image p) (trackedIn t)
    (posOf t p)

theorem pressAt_positions (s : State) (image : BitVec 128) (r : PressResult) (p : Position) :
    (pressAt s image r p).positions = Table.set builtInPos r.positions p.val (pressOf s image r.positions p).state := by
  unfold pressAt pressOf
  split <;> simp_all [PressOutcome.state]

theorem pressAt_presses (s : State) (image : BitVec 128) (r : PressResult) (p : Position) :
    (pressAt s image r p).presses = if pressOf s image r.positions p = .press then r.presses ++ [p] else r.presses := by
  unfold pressAt pressOf
  split <;> simp_all

theorem pressAt_blocked (s : State) (image : BitVec 128) (r : PressResult) (p : Position) :
    (pressAt s image r p).blocked =
      if (pressOf s image r.positions p).reported then some p else r.blocked := by
  unfold pressAt pressOf
  split <;> simp_all [PressOutcome.reported]

/-- The press stage over some positions leaves the others. -/
theorem pressFold_other (s : State) (image : BitVec 128) {l : List Position} {r : PressResult}
    (hwf : PositionsCanonical r.positions) : PositionsCanonical (l.foldl (pressAt s image) r).positions ∧
    ∀ p, p ∉ l → posOf (l.foldl (pressAt s image) r).positions p = posOf r.positions p := by
  induction l generalizing r with
  | nil => exact ⟨hwf, fun p _ => rfl⟩
  | cons p rest ih =>
    have hwf' : PositionsCanonical (pressAt s image r p).positions := by
      rw [pressAt_positions]
      exact positionsCanonical_set hwf p _
    obtain ⟨hkept, hother⟩ := ih hwf'
    rw [List.foldl_cons]
    refine ⟨hkept, fun q hq => ?_⟩
    rw [List.mem_cons, not_or] at hq
    rw [hother q hq.2, pressAt_positions, posOf_set hwf, if_neg hq.1]

/-- At its place in the order, a position is changed on the positions that the earlier ones have left (R25, R28). -/
theorem pressFold_at (s : State) (image : BitVec 128) {a b : List Position} {p : Position} {r : PressResult}
    (hwf : PositionsCanonical r.positions) (hl : (a ++ p :: b).Nodup) :
    posOf ((a ++ p :: b).foldl (pressAt s image) r).positions p =
      (pressOf s image (a.foldl (pressAt s image) r).positions p).state ∧
    posOf (a.foldl (pressAt s image) r).positions p = posOf r.positions p := by
  obtain ⟨-, htail, hdisjoint⟩ := List.nodup_append.1 hl
  have hpa : p ∉ a := fun h => hdisjoint p h p List.mem_cons_self rfl
  have hpb : p ∉ b := (List.nodup_cons.1 htail).1
  obtain ⟨hmid, hsame⟩ := pressFold_other s image (l := a) hwf
  have hwf' : PositionsCanonical (pressAt s image (a.foldl (pressAt s image) r) p).positions := by
    rw [pressAt_positions]
    exact positionsCanonical_set hmid p _
  refine ⟨?_, hsame p hpa⟩
  rw [List.foldl_append, List.foldl_cons, (pressFold_other s image (l := b) hwf').2 p hpb, pressAt_positions,
    posOf_set hmid, if_pos rfl]

/-- The positions that the press stage finds tracked at the place of `p`: the earlier ones as it leaves them, the others as
it found them. -/
theorem trackedIn_before (s : State) (image : BitVec 128) {a b : List Position} {r : PressResult}
    (hwf : PositionsCanonical r.positions) (hl : (a ++ b).Nodup) :
    trackedIn (a.foldl (pressAt s image) r).positions = (List.finRange 128).countP (fun q =>
      isTracked (if q ∈ a then posOf ((a ++ b).foldl (pressAt s image) r).positions q else posOf r.positions q)) := by
  obtain ⟨-, -, hdisjoint⟩ := List.nodup_append.1 hl
  obtain ⟨hmid, hsame⟩ := pressFold_other s image (l := a) hwf
  refine congrArg (fun f => (List.finRange 128).countP f) (funext fun q => congrArg isTracked ?_)
  split
  · next hq =>
    have hqb : q ∉ b := fun h => hdisjoint q hq q h rfl
    rw [List.foldl_append, (pressFold_other s image (l := b) hmid).2 q hqb]
  · next hq => exact hsame q hq

/-! ### What an outcome tells -/

/-- A press event comes exactly from a position that was not tracked and is DOWN then (R28). -/
theorem pressChange_press (unused : Bool) (d : Nat) (down isAmbiguous : Bool) (tracked : Nat) (st : PosState) :
    pressChange unused d down isAmbiguous tracked st = .press ↔
      isTracked st = false ∧ (pressChange unused d down isAmbiguous tracked st).state = .down := by
  unfold pressChange qualify
  cases st <;> simp only [isTracked] <;> split_ifs <;> simp [PressOutcome.state]

/-- A position is reported exactly when it enters blocking from UP or PRESSING (R30, R32). -/
theorem pressChange_reported (unused : Bool) (d : Nat) (down isAmbiguous : Bool) (tracked : Nat) (st : PosState) :
    (pressChange unused d down isAmbiguous tracked st).reported = true ↔
      (st = .up ∨ ∃ k, st = .pressing k) ∧
      ((pressChange unused d down isAmbiguous tracked st).state = .blockedGhost ∨
        (pressChange unused d down isAmbiguous tracked st).state = .blockedRollover) := by
  unfold pressChange qualify
  cases st <;> simp only [isTracked] <;> split_ifs <;> simp [PressOutcome.state, PressOutcome.reported]

/-- A tracked position is left alone by the press stage. -/
theorem pressChange_of_tracked {unused : Bool} {d : Nat} {down isAmbiguous : Bool} {tracked : Nat} {st : PosState}
    (h : isTracked st = true) : pressChange unused d down isAmbiguous tracked st = .quiet st := if_pos h

/-- The press stage begins to track a position only below eight tracked ones (R28). -/
theorem tracked_pressChange {unused : Bool} {d : Nat} {down isAmbiguous : Bool} {tracked : Nat} {st : PosState}
    (h : isTracked (pressChange unused d down isAmbiguous tracked st).state = true) : isTracked st = true ∨ tracked < 8 := by
  by_cases htracked : tracked < 8
  · exact .inr htracked
  · refine .inl ?_
    revert h
    unfold pressChange qualify
    cases st <;> simp only [isTracked] <;> split_ifs <;> simp_all [PressOutcome.state]

/-- The release stage tracks no new position, and one that it ceases to track is UP. -/
theorem releaseChange_tracked (unused : Bool) (d : Nat) (down : Bool) (st : PosState) :
    (isTracked st = false → releaseChange unused d down st = (st, false)) ∧
    ((releaseChange unused d down st).2 = true ↔
      isTracked st = true ∧ isTracked (releaseChange unused d down st).1 = false) ∧
    (isTracked st = true → isTracked (releaseChange unused d down st).1 = false →
      (releaseChange unused d down st).1 = .up ∧ (unused || !down) = true) := by
  cases st with
  | down | releasing =>
    simp only [releaseChange]
    split_ifs <;> simp_all [isTracked]
  | _ => simp [releaseChange, isTracked]

/-! ### Rollover (R28) -/

theorem countP_or_eq_le {l : List Position} (hl : l.Nodup) (f : Position → Bool) (p : Position) :
    l.countP (fun q => f q || q == p) ≤ l.countP f + 1 := by
  induction l with
  | nil => simp
  | cons q rest ih =>
    obtain ⟨hq, hrest⟩ := List.nodup_cons.1 hl
    by_cases hqp : q = p
    · have hsame : rest.countP (fun x => f x || x == p) = rest.countP f :=
        List.countP_congr fun x hx => by
          have hne : x ≠ p := fun h => hq (hqp ▸ h ▸ hx)
          simp [hne]
      rw [List.countP_cons, List.countP_cons, hsame]
      split_ifs <;> omega
    · have hrest := ih hrest
      rw [List.countP_cons, List.countP_cons]
      simp only [hqp, beq_iff_eq, Bool.or_eq_true, or_false]
      split_ifs <;> omega

theorem trackedIn_set_le {t : Table PosState} (h : PositionsCanonical t) (p : Position) (st : PosState) :
    trackedIn (Table.set builtInPos t p.val st) ≤ trackedIn t + 1 := by
  refine (List.countP_mono_left fun q _ hq => ?_).trans (countP_or_eq_le (List.nodup_finRange 128) _ p)
  rw [posOf_set h] at hq
  split at hq
  · next hqp => simp [hqp]
  · simp [hq]

theorem trackedIn_set_of_tracked_le {t : Table PosState} (h : PositionsCanonical t) {p : Position} {st : PosState}
    (hst : isTracked st = true → isTracked (posOf t p) = true) :
    trackedIn (Table.set builtInPos t p.val st) ≤ trackedIn t := by
  refine List.countP_mono_left fun q _ hq => ?_
  rw [posOf_set h] at hq
  split at hq
  · next hqp => exact hqp ▸ hst hq
  · exact hq

/-- The press stage never tracks more than eight positions (R28). -/
theorem trackedIn_pressFold (s : State) (image : BitVec 128) {l : List Position} {r : PressResult}
    (hwf : PositionsCanonical r.positions) (h8 : trackedIn r.positions ≤ 8) :
    trackedIn (l.foldl (pressAt s image) r).positions ≤ 8 := by
  induction l generalizing r with
  | nil => exact h8
  | cons p rest ih =>
    rw [List.foldl_cons]
    refine ih ?_ ?_ <;> rw [pressAt_positions]
    · exact positionsCanonical_set hwf p _
    · by_cases hroom : trackedIn r.positions < 8
      · exact (trackedIn_set_le hwf p _).trans hroom
      · exact (trackedIn_set_of_tracked_le hwf fun htracked =>
          (tracked_pressChange htracked).resolve_right hroom).trans h8

end Sys2Proof.Machine
end

section
-- One lemma at a time: elaborated side by side they ask for more threads than the memory limit of the check leaves.
set_option Elab.async false
/-!
PROOF. A whole scan pass: how each position stands after it, and which events it delivers (R25 to R34).
-/

namespace Sys2Proof.Machine

/-! ### Events and reports of the press stage -/

/-- A position that can enter blocking with a report: UP or PRESSING (R32). -/
def awaitsPress : PosState → Bool
  | .up => true
  | .pressing _ => true
  | _ => false

theorem awaitsPress_iff (st : PosState) : awaitsPress st = true ↔ st = .up ∨ ∃ k, st = .pressing k := by
  cases st <;> simp [awaitsPress]

/-- The first position of the stage is changed at once, and the later ones find themselves as they were. -/
theorem pressFold_head (s : State) (image : BitVec 128) {p : Position} {rest : List Position} (hp : p ∉ rest)
    {r : PressResult} (hwf : PositionsCanonical r.positions) : PositionsCanonical (pressAt s image r p).positions ∧
    posOf (rest.foldl (pressAt s image) (pressAt s image r p)).positions p = (pressOf s image r.positions p).state ∧
    ∀ q ∈ rest, posOf (pressAt s image r p).positions q = posOf r.positions q := by
  have hwf' : PositionsCanonical (pressAt s image r p).positions := by
    rw [pressAt_positions]
    exact positionsCanonical_set hwf p _
  refine ⟨hwf', ?_, fun q hq => ?_⟩
  · rw [(pressFold_other s image hwf').2 p hp, pressAt_positions, posOf_set hwf, if_pos rfl]
  · have hqp : q ≠ p := fun h => hp (h ▸ hq)
    rw [pressAt_positions, posOf_set hwf, if_neg hqp]

/-- The press stage reports a press from every position that it takes to DOWN, in the order of the stage. -/
theorem pressFold_presses (s : State) (image : BitVec 128) {l : List Position} (hl : l.Nodup) {r : PressResult}
    (hwf : PositionsCanonical r.positions) : (l.foldl (pressAt s image) r).presses = r.presses ++ l.filter (fun p =>
      !isTracked (posOf r.positions p) && posOf (l.foldl (pressAt s image) r).positions p == .down) := by
  induction l generalizing r with
  | nil => simp
  | cons p rest ih =>
    obtain ⟨hp, hrest⟩ := List.nodup_cons.1 hl
    obtain ⟨hwf', hnew, hother⟩ := pressFold_head s image hp hwf
    rw [List.foldl_cons, ih hrest hwf', pressAt_presses, List.filter_cons, hnew,
      List.filter_congr fun q hq => by rw [hother q hq]]
    by_cases hpress : pressOf s image r.positions p = .press
    · obtain ⟨huntracked, hdown⟩ := (pressChange_press ..).1 hpress
      rw [if_pos hpress, if_pos (by rw [huntracked, show (pressOf s image r.positions p).state = .down from hdown]; rfl)]
      simp
    · rw [if_neg hpress, if_neg fun h => hpress ?_]
      simp only [Bool.and_eq_true, Bool.not_eq_true', beq_iff_eq] at h
      exact (pressChange_press ..).2 h

/-- The press stage reports as blocked the last position that enters blocking. -/
theorem pressFold_blocked (s : State) (image : BitVec 128) {l : List Position} (hl : l.Nodup) {r : PressResult}
    (hwf : PositionsCanonical r.positions) : (l.foldl (pressAt s image) r).blocked = ((l.filter (fun p =>
      awaitsPress (posOf r.positions p) &&
        (posOf (l.foldl (pressAt s image) r).positions p == .blockedGhost ||
          posOf (l.foldl (pressAt s image) r).positions p == .blockedRollover))).getLast?).or r.blocked := by
  induction l generalizing r with
  | nil => simp
  | cons p rest ih =>
    obtain ⟨hp, hrest⟩ := List.nodup_cons.1 hl
    obtain ⟨hwf', hnew, hother⟩ := pressFold_head s image hp hwf
    have hreported : (pressOf s image r.positions p).reported = (awaitsPress (posOf r.positions p) &&
        ((pressOf s image r.positions p).state == .blockedGhost ||
          (pressOf s image r.positions p).state == .blockedRollover)) := by
      rw [Bool.eq_iff_iff]
      simp only [Bool.and_eq_true, awaitsPress_iff, Bool.or_eq_true, beq_iff_eq]
      exact pressChange_reported ..
    rw [List.foldl_cons, ih hrest hwf', pressAt_blocked, List.filter_cons, hnew, ← hreported,
      List.filter_congr fun q hq => by rw [hother q hq]]
    by_cases hp : (pressOf s image r.positions p).reported = true
    · rw [if_pos hp, if_pos hp, List.getLast?_cons]
      cases (List.filter _ rest).getLast? <;> rfl
    · rw [if_neg hp, if_neg hp]

/-! ### The order of the positions -/

/-- The positions in ascending order, under a name of their own, so that no comparison computes the list. -/
@[irreducible] def ascending : List Position := List.finRange 128

theorem ascending_eq : ascending = List.finRange 128 := by rw [ascending]

theorem nodup_ascending : ascending.Nodup := ascending_eq ▸ List.nodup_finRange 128

theorem mem_ascending (p : Position) : p ∈ ascending := ascending_eq ▸ List.mem_finRange p

/-- The positions before `p` in ascending order are those with lower numbers. -/
theorem ascending_split (p : Position) :
    ∃ a b, ascending = a ++ p :: b ∧ ∀ q, q ∈ a ↔ q < p := by
  obtain ⟨a, b, hab⟩ := List.append_of_mem (mem_ascending p)
  have hsorted : (a ++ p :: b).Pairwise (· < ·) := hab ▸ ascending_eq ▸ List.pairwise_lt_finRange 128
  obtain ⟨-, htail, hcross⟩ := List.pairwise_append.1 hsorted
  refine ⟨a, b, hab, fun q => ⟨fun hq => hcross q hq p List.mem_cons_self, fun hq => ?_⟩⟩
  have hmem : q ∈ a ++ p :: b := hab ▸ mem_ascending q
  obtain hq' | hq' := List.mem_append.1 hmem
  · exact hq'
  · obtain rfl | hq' := List.mem_cons.1 hq'
    · exact absurd hq (lt_irrefl _)
    · exact absurd hq (lt_asymm ((List.pairwise_cons.1 htail).1 q hq'))

/-! ### The press stage over all positions -/

theorem pressStage_eq (s : State) (image : BitVec 128) (t : Table PosState) :
    pressStage s image t = ascending.foldl (pressAt s image) { positions := t } := by
  rw [ascending_eq, pressStage]

theorem trackedIn_eq (t : Table PosState) : trackedIn t = ascending.countP (fun p => isTracked (posOf t p)) := by
  rw [ascending_eq, trackedIn]

theorem pressStage_canonical (s : State) (image : BitVec 128) {t : Table PosState} (ht : PositionsCanonical t) :
    PositionsCanonical (pressStage s image t).positions := by
  rw [pressStage_eq]
  exact (pressFold_other s image (r := { positions := t }) ht).1

theorem trackedIn_pressStage (s : State) (image : BitVec 128) {t : Table PosState} (ht : PositionsCanonical t)
    (h8 : trackedIn t ≤ 8) : trackedIn (pressStage s image t).positions ≤ 8 := by
  rw [pressStage_eq]
  exact trackedIn_pressFold s image (r := { positions := t }) ht h8

/-- A position is left by the press stage as its outcome says, on the positions that the earlier ones have left. -/
theorem pressStage_outcome (s : State) (image : BitVec 128) {t : Table PosState} (ht : PositionsCanonical t) (p : Position) :
    ∃ u, posOf u p = posOf t p ∧ posOf (pressStage s image t).positions p = (pressOf s image u p).state ∧
      trackedIn u = ascending.countP (fun q =>
        isTracked (if q < p then posOf (pressStage s image t).positions q else posOf t q)) := by
  obtain ⟨a, b, hab, hbefore⟩ := ascending_split p
  have hnodup : (a ++ p :: b).Nodup := hab ▸ nodup_ascending
  obtain ⟨hat, hfound⟩ := pressFold_at s image (r := { positions := t }) ht hnodup
  have htracked := trackedIn_before s image (r := { positions := t }) ht hnodup
  rw [← ascending_eq] at htracked
  rw [← hab, ← pressStage_eq] at hat htracked
  refine ⟨_, hfound, hat, ?_⟩
  rw [htracked]
  simp only [hbefore]

theorem pressStage_presses (s : State) (image : BitVec 128) {t : Table PosState} (ht : PositionsCanonical t) :
    (pressStage s image t).presses = ascending.filter (fun p =>
      !isTracked (posOf t p) && posOf (pressStage s image t).positions p == .down) := by
  have hpresses := pressFold_presses s image nodup_ascending (r := { positions := t }) ht
  rw [← pressStage_eq, List.nil_append] at hpresses
  exact hpresses

theorem pressStage_blocked (s : State) (image : BitVec 128) {t : Table PosState} (ht : PositionsCanonical t) :
    (pressStage s image t).blocked = (ascending.filter (fun p => awaitsPress (posOf t p) &&
      (posOf (pressStage s image t).positions p == .blockedGhost ||
        posOf (pressStage s image t).positions p == .blockedRollover))).getLast? := by
  have hblocked := pressFold_blocked s image nodup_ascending (r := { positions := t }) ht
  rw [← pressStage_eq, Option.or_none] at hblocked
  exact hblocked

/-! ### Both stages -/

/-- The positions after the release stage. -/
@[irreducible] def released (s : State) (image : BitVec 128) : Table PosState := (releaseStage s image).1

/-- The positions after both stages of a pass. -/
@[irreducible] def scanned (s : State) (image : BitVec 128) : Table PosState :=
  (pressStage s image (released s image)).positions

/-- The release stage at a position, on the positions that the pass finds. -/
def releasedAt (s : State) (image : BitVec 128) (p : Position) : PosState × Bool :=
  releaseOf s image s.scan.positions p

theorem releaseStage_eq (s : State) (image : BitVec 128) :
    releaseStage s image = ascending.foldl (releaseAt s image) (s.scan.positions, []) := by
  rw [ascending_eq, releaseStage]

theorem released_eq (s : State) (image : BitVec 128) : (releaseStage s image).1 = released s image := by
  delta released
  exact Eq.refl _

theorem scanned_eq (s : State) (image : BitVec 128) :
    (pressStage s image (released s image)).positions = scanned s image := by
  delta scanned
  exact Eq.refl _

theorem released_spec {s : State} (image : BitVec 128) (hwf : PositionsCanonical s.scan.positions) :
    PositionsCanonical (released s image) ∧ (∀ p, posOf (released s image) p = (releasedAt s image p).1) ∧
    (releaseStage s image).2 = ascending.filter (fun p => (releasedAt s image p).2) := by
  obtain ⟨hkept, hpos, hreleases⟩ := releaseFold s image nodup_ascending (acc := (s.scan.positions, [])) hwf
  rw [← releaseStage_eq] at hkept hpos hreleases
  rw [released_eq] at hkept hpos
  refine ⟨hkept, fun p => ?_, ?_⟩
  · rw [hpos p, if_pos (mem_ascending p), releasedAt]
  · rw [hreleases, List.nil_append]
    simp only [releasedAt]

/-- The tracked keys that the press stage counts at the place of `p`, by the positions before and after the pass. -/
def countedBefore (start final : Table PosState) (p : Position) : Nat :=
  ascending.countP (fun q => isTracked (posOf final q) && (isTracked (posOf start q) || decide (q < p)))

/-- A position is left by a pass as the press stage makes it, on some count of tracked keys. -/
theorem scanned_outcome {s : State} (image : BitVec 128) (hwf : PositionsCanonical s.scan.positions) (p : Position) :
    ∃ u, posOf u p = (releasedAt s image p).1 ∧ posOf (scanned s image) p = (pressOf s image u p).state ∧
      trackedIn u = ascending.countP (fun q =>
        isTracked (if q < p then posOf (scanned s image) q else (releasedAt s image q).1)) := by
  obtain ⟨hreleased, hpos, -⟩ := released_spec image hwf
  obtain ⟨u, hu, hstate, hcount⟩ := pressStage_outcome s image hreleased p
  rw [scanned_eq] at hstate hcount
  simp only [hpos] at hu hcount
  exact ⟨u, hu, hstate, hcount⟩

/-- An UP position that is of class UNUSED or seen up stays UP (R27, R33). -/
theorem pressChange_up_of_gone {unused : Bool} {d : Nat} {down isAmbiguous : Bool} {tracked : Nat}
    (h : (unused || !down) = true) : pressChange unused d down isAmbiguous tracked .up = .quiet .up := by
  simp [pressChange, isTracked, h]

/-- A tracked position is left by a pass as the release stage makes it (R26, R33). -/
theorem scanned_of_tracked {s : State} (image : BitVec 128) (hwf : PositionsCanonical s.scan.positions) {p : Position}
    (h : isTracked (posOf s.scan.positions p) = true) : posOf (scanned s image) p = (releasedAt s image p).1 := by
  obtain ⟨t, ht, hscanned, -⟩ := scanned_outcome image hwf p
  rw [hscanned, pressOf, ht]
  by_cases hstill : isTracked (releasedAt s image p).1 = true
  · rw [pressChange_of_tracked hstill]
    rfl
  · obtain ⟨hup, hgone⟩ := (releaseChange_tracked ..).2.2 h (Bool.eq_false_iff.2 hstill)
    rw [show (releasedAt s image p).1 = .up from hup, pressChange_up_of_gone hgone]
    rfl

/-- The release stage leaves a position that is not tracked. -/
theorem releasedAt_of_untracked {s : State} (image : BitVec 128) {p : Position}
    (h : isTracked (posOf s.scan.positions p) = false) : (releasedAt s image p).1 = posOf s.scan.positions p :=
  congrArg Prod.fst ((releaseChange_tracked ..).1 h)

/-- The tracked positions after the release stage are those before and after the pass. -/
theorem tracked_released_iff {s : State} (image : BitVec 128) (hwf : PositionsCanonical s.scan.positions) (q : Position) :
    isTracked (releasedAt s image q).1 = (isTracked (posOf (scanned s image) q) && isTracked (posOf s.scan.positions q)) := by
  by_cases h : isTracked (posOf s.scan.positions q) = true
  · rw [scanned_of_tracked image hwf h, h, Bool.and_true]
  · have huntracked : isTracked (posOf s.scan.positions q) = false := by simpa using h
    rw [releasedAt_of_untracked image huntracked, huntracked, Bool.and_false]

/-- A position that is not tracked is left by a pass as the press stage makes it (R27 to R31, R33). -/
theorem scanned_of_untracked {s : State} (image : BitVec 128) (hwf : PositionsCanonical s.scan.positions) {p : Position}
    (h : isTracked (posOf s.scan.positions p) = false) : posOf (scanned s image) p =
      (pressChange (classOf s p == .unused) s.cfg.debounce.toNat (seenDown image p.val) (ambiguous image p)
        (countedBefore s.scan.positions (scanned s image) p) (posOf s.scan.positions p)).state := by
  obtain ⟨t, ht, hscanned, hcount⟩ := scanned_outcome image hwf p
  have hcounted : trackedIn t = countedBefore s.scan.positions (scanned s image) p := by
    rw [hcount, countedBefore]
    refine congrArg (fun f => ascending.countP f) (funext fun q => ?_)
    by_cases hq : q < p
    · simp [hq]
    · simp [hq, tracked_released_iff image hwf q]
  rw [hscanned, pressOf, ht, hcounted, releasedAt_of_untracked image h]

theorem scanned_canonical {s : State} (image : BitVec 128) (hwf : PositionsCanonical s.scan.positions) :
    PositionsCanonical (scanned s image) := by
  rw [← scanned_eq]
  exact pressStage_canonical s image (released_spec image hwf).1

theorem trackedIn_scanned {s : State} (image : BitVec 128) (hwf : PositionsCanonical s.scan.positions)
    (h8 : trackedIn s.scan.positions ≤ 8) : trackedIn (scanned s image) ≤ 8 := by
  obtain ⟨hreleased, hpos, -⟩ := released_spec image hwf
  rw [← scanned_eq]
  refine trackedIn_pressStage s image hreleased ?_
  rw [trackedIn_eq] at h8 ⊢
  refine (List.countP_mono_left fun q _ hq => ?_).trans h8
  rw [hpos, tracked_released_iff image hwf, Bool.and_eq_true] at hq
  exact hq.2

/-! ### The events of a pass -/

/-- The release events of a pass come from the positions that it ceases to track. -/
theorem scanned_releases {s : State} (image : BitVec 128) (hwf : PositionsCanonical s.scan.positions) :
    (releaseStage s image).2 = ascending.filter (fun p =>
      isTracked (posOf s.scan.positions p) && !isTracked (posOf (scanned s image) p)) := by
  rw [(released_spec image hwf).2.2]
  refine List.filter_congr fun p _ => ?_
  rw [Bool.eq_iff_iff, releasedAt, releaseOf, (releaseChange_tracked ..).2.1, Bool.and_eq_true, Bool.not_eq_true']
  refine and_congr_right fun htracked => ?_
  rw [scanned_of_tracked image hwf htracked, releasedAt, releaseOf]

/-- The press events of a pass come from the positions that it begins to track. -/
theorem scanned_presses {s : State} (image : BitVec 128) (hwf : PositionsCanonical s.scan.positions) :
    (pressStage s image (releaseStage s image).1).presses = ascending.filter (fun p =>
      !isTracked (posOf s.scan.positions p) && posOf (scanned s image) p == .down) := by
  obtain ⟨hreleased, hpos, -⟩ := released_spec image hwf
  rw [released_eq, pressStage_presses s image hreleased]
  refine List.filter_congr fun p _ => ?_
  rw [scanned_eq, hpos, tracked_released_iff image hwf]
  cases hdown : posOf (scanned s image) p == .down
  · simp
  · simp [(beq_iff_eq.1 hdown), isTracked]

/-- The position that a pass reports is the last that enters blocking. -/
theorem scanned_blocked {s : State} (image : BitVec 128) (hwf : PositionsCanonical s.scan.positions) :
    (pressStage s image (releaseStage s image).1).blocked = (ascending.filter (fun p =>
      awaitsPress (posOf s.scan.positions p) &&
        (posOf (scanned s image) p == .blockedGhost || posOf (scanned s image) p == .blockedRollover))).getLast? := by
  obtain ⟨hreleased, hpos, -⟩ := released_spec image hwf
  rw [released_eq, pressStage_blocked s image hreleased]
  refine congrArg List.getLast? (List.filter_congr fun p _ => ?_)
  rw [scanned_eq, hpos]
  by_cases htracked : isTracked (posOf s.scan.positions p) = true
  · -- a tracked position does not await a press, and one that is released goes to UP
    have hstart : awaitsPress (posOf s.scan.positions p) = false := by
      revert htracked
      cases posOf s.scan.positions p <;> simp [awaitsPress, isTracked]
    rw [hstart, scanned_of_tracked image hwf htracked]
    cases hrel : (releasedAt s image p).1 <;> simp [awaitsPress]
  · rw [releasedAt_of_untracked image (by simpa using htracked)]

end Sys2Proof.Machine
end

section
-- One lemma at a time: elaborated side by side they ask for more threads than the memory limit of the check leaves.
set_option Elab.async false
/-!
PROOF. A scan pass as a step of the machine: the positions, the events delivered, and the bounds of what it changes; the
canonical tables and the rollover limit through every step.
-/

namespace Sys2Proof.Machine

/-! ### The raw image (R21, R22, R29) -/

theorem seenDown_rawImage (s : State) (seen : BitVec 128) (p : Position) :
    seenDown (rawImage s.cfg seen) p.val = true ↔ SeenDown s seen p := by
  have hp := p.isLt
  have hmask : (BitVec.ofNat 128 (2 ^ (8 * s.cfg.driveCount.toNat) - 1)).getLsbD p.val =
      decide (p.val < 8 * s.cfg.driveCount.toNat) := by
    rw [BitVec.getLsbD_ofNat, Nat.testBit_two_pow_sub_one, decide_eq_true hp, Bool.true_and]
  rw [seenDown, rawImage, BitVec.getLsbD_and, hmask, Bool.and_eq_true, decide_eq_true_eq, SeenDown]
  refine and_congr_right fun _ => ?_
  omega

theorem ambiguous_rawImage (s : State) (seen : BitVec 128) (p : Position) :
    ambiguous (rawImage s.cfg seen) p = true ↔ Ambiguous s seen p := by
  have hp := p.isLt
  simp only [ambiguous, List.any_eq_true, List.mem_range, Bool.and_eq_true, bne_iff_ne, ne_eq]
  constructor
  · rintro ⟨d, hd, n, hn, ⟨⟨⟨hline, hcolumn⟩, hq⟩, hr⟩, hc⟩
    refine ⟨⟨p.val / 8 * 8 + n, by omega⟩, ⟨d * 8 + p.val % 8, by omega⟩, ⟨d * 8 + n, by omega⟩,
      (seenDown_rawImage s seen _).1 hq, (seenDown_rawImage s seen _).1 hr, (seenDown_rawImage s seen _).1 hc, ?_⟩
    simp only
    omega
  · rintro ⟨q, r, c, hq, hr, hc, hqline, hqcolumn, hrline, hrcolumn, hcline, hccolumn⟩
    have hq' := q.isLt
    have hr' := r.isLt
    rw [← seenDown_rawImage] at hq hr hc
    have hqplace : p.val / 8 * 8 + q.val % 8 = q.val := by omega
    have hrplace : r.val / 8 * 8 + p.val % 8 = r.val := by omega
    have hcplace : r.val / 8 * 8 + q.val % 8 = c.val := by omega
    exact ⟨r.val / 8, by omega, q.val % 8, by omega, ⟨⟨⟨by omega, by omega⟩, by rwa [hqplace]⟩, by rwa [hrplace]⟩,
      by rwa [hcplace]⟩

/-! ### The latches that key events can set -/

/-- From `s` to `t` no latch of source 6 or above has changed. -/
def PassLatches (s t : State) : Prop := ∀ n, 6 ≤ n → t.lv.latches.getLsbD n = s.lv.latches.getLsbD n

theorem PassLatches.refl (s : State) : PassLatches s s := fun _ _ => rfl

theorem PassLatches.trans {s t u : State} (hst : PassLatches s t) (htu : PassLatches t u) : PassLatches s u :=
  fun n hn => (htu n hn).trans (hst n hn)

theorem PassLatches.of_eq {s t : State} (h : t.lv.latches = s.lv.latches) : PassLatches s t := fun n _ => by rw [h]

theorem passLatches_setLatch (l : Latch) (s : State) (hl : latchNumber l < 6 := by decide) : PassLatches s (setLatch l s) := by
  intro n hn
  have hbit : (latchBit l).getLsbD n = false := by
    rw [latchBit, BitVec.getLsbD_shiftLeft]
    simp
    omega
  rw [setLatch, BitVec.getLsbD_or, hbit, Bool.or_false]

theorem passLatches_ite {s t u : State} {c : Prop} [Decidable c] (ht : PassLatches s t) (hu : PassLatches s u) :
    PassLatches s (if c then t else u) := by
  split
  · exact ht
  · exact hu

theorem passLatches_offer (r : QRecord) (s : State) : PassLatches s (offer r s) :=
  passLatches_ite (.of_eq rfl) (passLatches_setLatch .queueOverflow { s with tq := _ })

theorem passLatches_releaseEvent (p : Position) (s : State) : PassLatches s (releaseEvent p s) := by
  have hrepeat (u : State) : PassLatches u (releaseRepeat p u) := .of_eq ((releaseRepeat_frame p u).same .latches (by decide))
  have hcompose (u : State) : PassLatches u (completeCompose u) :=
    (passLatches_ite (passLatches_offer _ u) (.refl u)).trans (.of_eq rfl)
  have hkeys : PassLatches s { s with tr := { s.tr with modKeys := s.tr.modKeys.filter (fun k => k.1 != p) } } := .of_eq rfl
  exact (passLatches_ite (hkeys.trans (hcompose _)) hkeys).trans (hrepeat _)

theorem passLatches_chordAction (i : Fin 4) (s : State) : PassLatches s (chordAction i s) := by
  have hrecord (u : State) : PassLatches u (recordChord i u) := passLatches_setLatch .attentionChord { u with tr := _ }
  unfold chordAction
  split
  · exact hrecord s
  · exact hrecord _
  · exact passLatches_setLatch .hold (cancelRepeat { s with tr := { s.tr with held := true } })
  · exact .of_eq rfl

theorem passLatches_translatePress (c : KeyClass) (p : Position) (s : State) : PassLatches s (translatePress c p s).1 := by
  unfold translatePress
  simp only
  split
  · exact .refl s
  · split
    · exact .refl s
    · exact passLatches_offer _ s

theorem passLatches_pressTranslating (c : KeyClass) (p : Position) (s : State) :
    PassLatches s (pressTranslating c p s).1 := by
  unfold pressTranslating
  simp only
  split
  · exact passLatches_chordAction _ (clearCompose (cancelRepeat s))
  · split
    · split
      · exact .of_eq rfl
      · exact passLatches_translatePress c p (clearCompose (cancelRepeat s))
    · exact passLatches_translatePress c p (cancelRepeat s)

theorem passLatches_pressEvent (p : Position) (s : State) : PassLatches s (pressEvent p s).1 := by
  unfold pressEvent
  simp only
  split
  · exact .of_eq rfl
  · split
    · exact passLatches_setLatch .hold { s with tr := { s.tr with held := false } }
    · split
      · exact .of_eq rfl
      · exact .of_eq rfl
      · exact .of_eq rfl
      · exact passLatches_pressTranslating _ p { s with tr := _ }
      · exact .refl s
      · exact passLatches_pressTranslating _ p s

theorem passLatches_releases (l : List Position) (s : State) :
    PassLatches s (l.foldl (fun v p => releaseEvent p v) s) := by
  induction l generalizing s with
  | nil => exact .refl s
  | cons p rest ih => exact (passLatches_releaseEvent p s).trans (ih _)

theorem passLatches_presses (l : List Position) (s : State) : PassLatches s (deliverPresses l s).1 := by
  induction l generalizing s with
  | nil => exact .refl s
  | cons p rest ih => exact (passLatches_pressEvent p s).trans (ih _)

/-! ### The pass as a step -/

/-- The state in which the delivery of a pass starts (R25, R32, R34). -/
def passStart (image : BitVec 128) (u : State) : State :=
  reportBlocked (pressStage u image (releaseStage u image).1).blocked
    { u with scan := { u.scan with positions := scanned u image, raw := image } }

/-- What the delivery of a pass comes to: the releases, then the presses. -/
def passDelivery (image : BitVec 128) (u : State) : State × List FaultReport :=
  deliverPresses (pressStage u image (releaseStage u image).1).presses
    ((releaseStage u image).2.foldl (fun v p => releaseEvent p v) (passStart image u))

theorem scanPassBody_eq (seen : BitVec 128) (u : State) : scanPassBody seen u =
    captureAll (passDelivery (rawImage u.cfg seen) u).2 (takePass (passDelivery (rawImage u.cfg seen) u).1) := by
  simp only [scanPassBody, passDelivery, passStart, released_eq, scanned_eq]

theorem passStart_frame (image : BitVec 128) (u : State) :
    Frame [.positions, .raw, .lastBlocked, .latches] u (passStart image u) :=
  (setImage_frame (scanned u image) image u).trans (reportBlocked_frame _ _)

/-- The delivery leaves the scanner, the fault record and the configuration (R34). -/
theorem passDelivery_frame (image : BitVec 128) (u : State) : Frame pressParts (passStart image u) (passDelivery image u).1 := by
  have hreleases : Frame pressParts (passStart image u)
      ((releaseStage u image).2.foldl (fun v p => releaseEvent p v) (passStart image u)) :=
    Frame.foldl (fun v p => (releaseEvent_frame p v).mono) _ _
  exact hreleases.andThen (deliverPresses_frame _ _)

theorem passStart_scan (image : BitVec 128) (u : State) : (passStart image u).scan.positions = scanned u image ∧
    (passStart image u).scan.raw = image := by
  unfold passStart
  generalize (pressStage u image (releaseStage u image).1).blocked = blocked
  cases blocked <;> exact ⟨rfl, rfl⟩

theorem exec_scanPass_of_ready {seen : BitVec 128} {s : State} (h : PassReady s) :
    exec (.scanPass seen) s = .next (endStep (scanPassBody seen (samplePins s))) := by
  show Host.Outcome.next (if scanRuns s then stepOf (scanPassBody seen) s else s) = _
  rw [if_pos ((scanRuns_iff s).2 h)]
  rfl

/-- The scanner after a pass: the positions of both stages, the image, and the timer left or restarted (R23, R25). -/
theorem scanPass_scan (seen : BitVec 128) (s : State) :
    let t := endStep (scanPassBody seen (samplePins s))
    t.scan.positions = scanned (samplePins s) (rawImage s.cfg seen) ∧ t.scan.raw = rawImage s.cfg seen ∧
    t.scan.lastBlocked = (passStart (rawImage s.cfg seen) (samplePins s)).scan.lastBlocked ∧
    t.scan.ready = false ∧ (s.scan.ready = false → t.scan.timer = 0 ∧ t.scan.interval = scanCycles s.cfg) ∧
    (s.scan.ready = true → t.scan.timer = s.scan.timer ∧ t.scan.interval = s.scan.interval) := by
  have hdelivery := passDelivery_frame (rawImage s.cfg seen) (samplePins s)
  have hstart := passStart_frame (rawImage s.cfg seen) (samplePins s)
  obtain ⟨hpositions, hraw⟩ := passStart_scan (rawImage s.cfg seen) (samplePins s)
  have htimer : (passDelivery (rawImage s.cfg seen) (samplePins s)).1.scan.timer = s.scan.timer ∧
      (passDelivery (rawImage s.cfg seen) (samplePins s)).1.scan.interval = s.scan.interval ∧
      (passDelivery (rawImage s.cfg seen) (samplePins s)).1.scan.ready = s.scan.ready := by
    have hall := Part.same_trans (Part.same_trans (samplePins_same .scanTimer s) (hstart.same .scanTimer (by decide)))
      (hdelivery.same .scanTimer (by decide))
    exact hall
  have hcfg : (passDelivery (rawImage s.cfg seen) (samplePins s)).1.cfg = s.cfg :=
    Part.same_trans (Part.same_trans (samplePins_same .config s) (hstart.same .config (by decide)))
      (hdelivery.same .config (by decide))
  obtain ⟨htimer, hinterval, hready⟩ := htimer
  have hlast : (passDelivery (rawImage s.cfg seen) (samplePins s)).1.scan.lastBlocked =
      (passStart (rawImage s.cfg seen) (samplePins s)).scan.lastBlocked := hdelivery.same .lastBlocked (by decide)
  have hpositions' := Eq.trans (hdelivery.same .positions (by decide)) hpositions
  have hraw' := Eq.trans (hdelivery.same .raw (by decide)) hraw
  simp only [scanPassBody_eq, samplePins_cfg, endStep_scan, captureAll_scan, takePass_scan, hready, hcfg]
  generalize passDelivery (rawImage s.cfg seen) (samplePins s) = r at *
  generalize passStart (rawImage s.cfg seen) (samplePins s) = start at *
  cases s.scan.ready
  · exact ⟨hpositions', hraw', hlast, rfl, fun _ => ⟨rfl, rfl⟩, fun h => by cases h⟩
  · exact ⟨hpositions', hraw', hlast, rfl, (fun h => by cases h), fun _ => ⟨htimer, hinterval⟩⟩

/-! ### How each position stands (R26 to R31, R33) -/

theorem classOf_samplePins (s : State) (p : Position) : classOf (samplePins s) p = classOf s p := by
  rw [classOf, samplePins_tr, classOf]

/-- A tracked position after a pass. -/
theorem position_of_tracked {seen : BitVec 128} {s : State} (hwf : PositionsCanonical s.scan.positions) {p : Position}
    (h : isTracked (posOf s.scan.positions p) = true) :
    posOf (endStep (scanPassBody seen (samplePins s))).scan.positions p =
      (releaseChange (classOf s p == .unused) s.cfg.debounce.toNat (seenDown (rawImage s.cfg seen) p.val)
        (posOf s.scan.positions p)).1 := by
  rw [(scanPass_scan seen s).1, scanned_of_tracked _ (by rwa [samplePins_scan]) (by rwa [samplePins_scan]), releasedAt,
    releaseOf, classOf_samplePins, samplePins_cfg, samplePins_scan]

theorem countedBefore_eq (s t : State) (p : Position) :
    countedBefore s.scan.positions t.scan.positions p = trackedBefore s t p := by
  rw [countedBefore, ascending_eq, trackedBefore]

/-- A position that is not tracked after a pass. -/
theorem position_of_untracked {seen : BitVec 128} {s t : State} (ht : t = endStep (scanPassBody seen (samplePins s)))
    (hwf : PositionsCanonical s.scan.positions) {p : Position} (h : isTracked (posOf s.scan.positions p) = false) :
    posOf t.scan.positions p =
      (pressChange (classOf s p == .unused) s.cfg.debounce.toNat (seenDown (rawImage s.cfg seen) p.val)
        (ambiguous (rawImage s.cfg seen) p) (trackedBefore s t p) (posOf s.scan.positions p)).state := by
  have hpositions := (scanPass_scan seen s).1
  rw [← ht] at hpositions
  rw [← countedBefore_eq, hpositions, scanned_of_untracked _ (by rwa [samplePins_scan]) (by rwa [samplePins_scan]),
    classOf_samplePins, samplePins_cfg, samplePins_scan]

end Sys2Proof.Machine
end

section
-- One lemma at a time: elaborated side by side they ask for more threads than the memory limit of the check leaves.
set_option Elab.async false
/-!
PROOF. What the chapters say of a scan pass: the two stages at each position, the bounds of the pass, and the canonical
tables with at most eight tracked keys through every step.
-/

namespace Sys2Proof.Machine

/-! ### Each position (R26 to R31, R33) -/

theorem trackedBefore_le (s t : State) (p : Position) : trackedBefore s t p ≤ trackedCount t := by
  rw [trackedBefore, trackedCount, trackedIn]
  refine List.countP_mono_left fun q _ hq => ?_
  rw [Bool.and_eq_true] at hq
  exact hq.1

theorem pass_of_exec {seen : BitVec 128} {s t : State} (hready : PassReady s) (ht : exec (.scanPass seen) s = .next t) :
    t = endStep (scanPassBody seen (samplePins s)) :=
  Host.Outcome.next.inj (ht.symm.trans (exec_scanPass_of_ready hready))

/-- What the press stage makes of a position that qualifies (R28 to R30). -/
theorem qualify_state (isAmbiguous : Bool) (tracked : Nat) (fromGhost : Bool) :
    (qualify isAmbiguous tracked fromGhost).state =
      if isAmbiguous then .blockedGhost
      else if tracked < 8 then .down
      else if fromGhost then .blockedGhost else .blockedRollover := by
  unfold qualify
  cases isAmbiguous with
  | true => cases fromGhost <;> rfl
  | false =>
    by_cases h : 8 ≤ tracked
    · simp only [h, not_lt.2 h, Bool.false_eq_true, if_false, if_true]
      cases fromGhost <;> rfl
    · simp only [h, not_le.1 h, Bool.false_eq_true, if_false, if_true]
      rfl

/-- A position that is not tracked, and is of class UNUSED or seen up, becomes UP (R27, R33). -/
theorem pressChange_of_gone {unused down isAmbiguous : Bool} {d tracked : Nat} {old : PosState}
    (huntracked : isTracked old = false) (hgone : (unused || !down) = true) :
    pressChange unused d down isAmbiguous tracked old = .quiet .up := by
  simp [pressChange, huntracked, hgone]

/-- A press that has not been seen long enough is counted (R27). -/
theorem pressChange_of_pressing {d tracked : Nat} {isAmbiguous : Bool} :
    (1 < d → pressChange false d true isAmbiguous tracked .up = .quiet (.pressing 1)) ∧
    ∀ k, k + 1 < d → pressChange false d true isAmbiguous tracked (.pressing k) = .quiet (.pressing (k + 1)) := by
  refine ⟨fun hd => ?_, fun k hd => ?_⟩
  · have hshort : ¬ d ≤ 1 := not_le.2 hd
    simp [pressChange, isTracked, hshort]
  · have hshort : ¬ d ≤ k + 1 := not_le.2 hd
    simp [pressChange, isTracked, hshort]

/-- A seen position of a used class that qualifies is put to the qualification check (R28, R30). -/
theorem pressChange_of_qualifies {d tracked : Nat} {isAmbiguous : Bool} {old : PosState}
    (h : (old = .up ∧ d ≤ 1) ∨ (∃ k, old = .pressing k ∧ d ≤ k + 1) ∨ old = .blockedGhost) :
    (pressChange false d true isAmbiguous tracked old).state =
      if isAmbiguous then .blockedGhost
      else if tracked < 8 then .down
      else if old = .blockedGhost then .blockedGhost else .blockedRollover := by
  rcases h with ⟨rfl, hd⟩ | ⟨k, rfl, hd⟩ | rfl
  · simp [pressChange, isTracked, hd, qualify_state]
  · simp [pressChange, isTracked, hd, qualify_state]
  · simp [pressChange, isTracked, qualify_state]

/-- Settles O26: a tracked position follows the release stage, any other the press stage. -/
theorem positionsFollowTheTwoStages : Obligations.PositionsFollowTheTwoStages := by
  refine ⟨fun seen s t p htables hready ht => ?_, fun seen s t p htables hready ht huntracked => ?_⟩ <;>
    obtain ⟨-, hwf, -, -⟩ := htables
  · have hnew (h : isTracked (posOf s.scan.positions p) = true) := position_of_tracked (seen := seen) hwf h
    rw [← pass_of_exec hready ht] at hnew
    refine ⟨fun k hold hunused => ?_, fun hused => ⟨fun hold hseen => ?_, fun hold hseen => ?_, fun k hold hseen => ?_,
      fun k hold hseen => ?_⟩⟩
    · rcases hold with hold | hold <;> rw [hnew (by rw [hold]; rfl), hold] <;> simp [releaseChange, hunused]
    all_goals
      rw [hnew (by rw [hold]; rfl), hold]
      simp [releaseChange, hused, seenDown_rawImage, hseen]
    · split <;> rfl
    · split <;> rfl
  · have hnew := position_of_untracked (pass_of_exec hready ht) hwf huntracked
    refine ⟨fun hgone => ?_, fun hused hseen => ?_⟩
    · have hgone' : (classOf s p == .unused || !seenDown (rawImage s.cfg seen) p.val) = true := by
        rw [Bool.or_eq_true, Bool.not_eq_true', ← Bool.not_eq_true, seenDown_rawImage, beq_iff_eq]
        exact hgone
      rw [hnew, pressChange_of_gone huntracked hgone']
      rfl
    · rw [beq_false_of_ne hused, (seenDown_rawImage s seen p).2 hseen] at hnew
      refine ⟨fun hold hd => ?_, fun k hold hd => ?_, fun hold => ?_, fun hqualifies hambiguous => ?_,
        fun hqualifies hambiguous hrefused => ?_, fun hqualifies hambiguous => ?_⟩
      · rw [hnew, hold, pressChange_of_pressing.1 hd]
        rfl
      · rw [hnew, hold, pressChange_of_pressing.2 k hd]
        rfl
      · rw [hnew, hold]
        rfl
      · rw [hnew, pressChange_of_qualifies hqualifies, if_pos ((ambiguous_rawImage s seen p).2 hambiguous)]
      · rw [pressChange_of_qualifies hqualifies, if_neg ((ambiguous_rawImage s seen p).not.2 hambiguous)] at hnew
        by_cases hroom : trackedBefore s t p < 8
        · rw [if_pos hroom] at hnew
          exact absurd hnew hrefused
        · rw [if_neg hroom] at hnew
          exact ⟨(not_lt.1 hroom).trans (trackedBefore_le s t p), hnew⟩
      · rw [hnew, pressChange_of_qualifies hqualifies, if_neg ((ambiguous_rawImage s seen p).not.2 hambiguous)]

/-! ### The bounds of a pass (R22 to R25, R32, R34) -/

/-- The delivery of a pass, in the terms of the positions before and after it. -/
theorem passDelivery_eq {seen : BitVec 128} {s t : State} (ht : t = endStep (scanPassBody seen (samplePins s)))
    (hwf : PositionsCanonical s.scan.positions) :
    passDelivery (rawImage s.cfg seen) (samplePins s) = delivered (beforeDelivery s t) (releasesIn s t) (pressesIn s t) ∧
    t.scan.lastBlocked =
      (match (blockedIn s t).getLast? with | some p => byteOf p.val | none => s.scan.lastBlocked) := by
  have hwf' : PositionsCanonical (samplePins s).scan.positions := by rwa [samplePins_scan]
  obtain ⟨hpositions, hraw, hlast, -⟩ := scanPass_scan seen s
  rw [← ht] at hpositions hraw hlast
  have hreleases := scanned_releases (rawImage s.cfg seen) hwf'
  have hpresses := scanned_presses (rawImage s.cfg seen) hwf'
  have hblocked := scanned_blocked (rawImage s.cfg seen) hwf'
  rw [← hpositions, samplePins_scan, ascending_eq] at hreleases hpresses hblocked
  have hawaits : (List.finRange 128).filter (fun p => awaitsPress (posOf s.scan.positions p) &&
      (posOf t.scan.positions p == .blockedGhost || posOf t.scan.positions p == .blockedRollover)) = blockedIn s t :=
    List.filter_congr fun p _ => by cases posOf s.scan.positions p <;> rfl
  rw [hawaits] at hblocked
  have hstart : passStart (rawImage s.cfg seen) (samplePins s) = beforeDelivery s t ∧ t.scan.lastBlocked =
      (match (blockedIn s t).getLast? with | some p => byteOf p.val | none => s.scan.lastBlocked) := by
    rw [hlast, beforeDelivery, hlast, hpositions, hraw, passStart, hblocked, samplePins_eq]
    generalize scanned _ _ = positions
    by_cases hnone : blockedIn s t = []
    · simp [hnone, reportBlocked]
    · obtain ⟨p, hp⟩ := Option.ne_none_iff_exists'.1 (List.getLast?_eq_none_iff.not.2 hnone)
      simp [hp, hnone, reportBlocked, setLatch]
  refine ⟨?_, hstart.2⟩
  have hdelivered := deliverPresses_foldl (pressesIn s t)
    ((releasesIn s t).foldl (fun v p => releaseEvent p v) (beforeDelivery s t)) []
  rw [passDelivery, hpresses, hreleases, hstart.1, delivered, releasesIn, pressesIn]
  exact hdelivered.symm

theorem passLatches_passStart (image : BitVec 128) (u : State) : PassLatches u (passStart image u) := by
  unfold passStart
  generalize (pressStage u image (releaseStage u image).1).blocked = blocked
  cases blocked with
  | none => exact .of_eq rfl
  | some p => exact passLatches_setLatch .matrix _

theorem passLatches_passDelivery (image : BitVec 128) (u : State) : PassLatches u (passDelivery image u).1 :=
  ((passLatches_passStart image u).trans (passLatches_releases _ _)).trans (passLatches_presses _ _)

/-- What a pass leaves outside the scanner is what its delivery leaves (R34). -/
theorem scanPassBody_delivers (seen : BitVec 128) (s : State) :
    let u := scanPassBody seen (samplePins s)
    let r := passDelivery (rawImage s.cfg seen) (samplePins s)
    u.tr = r.1.tr ∧ u.tq = r.1.tq ∧ u.rep = r.1.rep ∧ u.sup = r.1.sup ∧ u.lv = r.1.lv ∧ u.fault = captureInto s.fault r.2 := by
  have hfault : (passDelivery (rawImage s.cfg seen) (samplePins s)).1.fault = s.fault :=
    Part.same_trans (Part.same_trans (samplePins_same .fault s) ((passStart_frame _ _).same .fault (by decide)))
      ((passDelivery_frame _ _).same .fault (by decide))
  simp only [scanPassBody_eq, samplePins_cfg]
  generalize passDelivery (rawImage s.cfg seen) (samplePins s) = r at *
  simp [hfault]

theorem withPowerLow_idem (s : State) (w : Half) : withPowerLow s (withPowerLow s w) = withPowerLow s w := by
  unfold withPowerLow
  split
  · rw [BitVec.or_assoc, BitVec.or_self]
  · rfl

/-- A step that ends with some latch word left ends with its own. -/
theorem endsStep_self {s t : State} {w : Half} (h : EndsStep s t w) : EndsStep s t t.lv.latches := by
  obtain ⟨hpins, hlatches, hrest⟩ := h
  exact ⟨hpins, by rw [hlatches, withPowerLow_idem], hrest⟩

theorem withPowerLow_getLsbD (s : State) (w : Half) (n : Nat) :
    (withPowerLow s w).getLsbD n = (w.getLsbD n || (decide (n = 12) && ((seenPins s).vddLow && !s.sup.pwrLow))) := by
  unfold withPowerLow
  have hbit : (0x1000#16).getLsbD n = decide (n = 12) := by
    rw [show (0x1000#16) = 1#16 <<< 12 by decide, BitVec.getLsbD_shiftLeft]
    rw [Bool.eq_iff_iff]
    simp
    omega
  split
  · next h => rw [BitVec.getLsbD_or, hbit, h.1, h.2]; simp
  · next h =>
    have hoff : ((seenPins s).vddLow && !s.sup.pwrLow) = false := by
      cases hv : (seenPins s).vddLow <;> cases hp : s.sup.pwrLow <;> simp_all
    simp [hoff]

/-- Settles O25: the delivery of a pass, and the parts that it can reach. -/
theorem scanPassKeepsItsBounds : Obligations.ScanPassKeepsItsBounds := by
  intro seen s hready
  obtain ⟨-, hraw, -, hdropped, hrestarted, hleft⟩ := scanPass_scan seen s
  obtain ⟨htr, htq, hrep, hsup, hlv, hfault⟩ := scanPassBody_delivers seen s
  have hstep := mainStep_of_frame hready.1.1 (scanPassBody_frame seen (samplePins s))
  obtain ⟨hends, hchanges⟩ := hstep
  have hbits : PassLatches s (scanPassBody seen (samplePins s)) :=
    (PassLatches.of_eq (by rw [samplePins_lv])).trans
      ((passLatches_passDelivery (rawImage s.cfg seen) (samplePins s)).trans (.of_eq (by rw [hlv])))
  refine ⟨_, exec_scanPass_of_ready hready, fun p => ?_, hdropped, hrestarted, hleft, endsStep_self hends,
    fun htables => ?_, fun n hn => ?_, ?_, hchanges.mono⟩
  · rw [hraw]
    exact seenDown_rawImage s seen p
  · obtain ⟨hdelivery, hlast⟩ := passDelivery_eq (seen := seen) rfl htables.2.1
    rw [← hdelivery]
    refine ⟨?_, ?_, ?_, ?_, ?_, ?_, hlast⟩
    · rw [endStep_tr, htr]
    · rw [endStep_tq, htq]
    · rw [endStep_rep, hrep]
    · have hrequest : (endStep (scanPassBody seen (samplePins s))).sup.request =
          (scanPassBody seen (samplePins s)).sup.request := (endStep_changes _).2 .request (by decide)
      rw [hrequest, hsup]
    · rw [endStep_fault, hfault]
    · rw [hlv] at hends
      exact hends
  · rw [hends.2.1, withPowerLow_getLsbD, hbits n (by simp at hn; omega)]
    have h12 : n ≠ 12 := by simp at hn; omega
    simp [h12]
  · rw [hends.2.1, withPowerLow_getLsbD, hbits 12 (by decide)]
    simp

/-! ### Canonical tables and rollover through every step -/

/-- The tables are in their canonical form and at most eight keys are tracked. -/
def TablesRight (s : State) : Prop := TablesCanonical s ∧ RolloverBounded s

/-- The parts that `TablesRight` reads. -/
def tableParts : List Part := [.memory, .positions, .classes, .entries]

theorem TablesRight.of_same {s t : State} (h : TablesRight s) (hsame : ∀ p ∈ tableParts, p.same s t) : TablesRight t := by
  have hmem : t.mem = s.mem := hsame .memory (by decide)
  have hpositions : t.scan.positions = s.scan.positions := hsame .positions (by decide)
  have hclasses : t.tr.classes = s.tr.classes := hsame .classes (by decide)
  have hentries : t.tr.entries = s.tr.entries := hsame .entries (by decide)
  rw [TablesRight, TablesCanonical, RolloverBounded, trackedCount, hmem, hpositions, hclasses, hentries]
  exact h

theorem Frame.tablesRight {parts : List Part} {s t : State} (hf : Frame parts s t) (h : TablesRight s)
    (hparts : ∀ p ∈ tableParts, p ∉ parts := by decide) : TablesRight t :=
  h.of_same fun p hp => hf.same p (hparts p hp)

theorem tablesRight_samplePins {s : State} (h : TablesRight s) : TablesRight (samplePins s) :=
  h.of_same fun p _ => samplePins_same p s

theorem tablesRight_endStep {s : State} (h : TablesRight s) : TablesRight (endStep s) :=
  h.of_same fun p hp => (endStep_changes s).2 p (by revert p hp; decide)

theorem trackedIn_nil : trackedIn [] = 0 := List.countP_eq_zero.2 fun p _ => by simp [posOf, Table.get, builtInPos, isTracked]

/-- With no position listed all are UP, and none is tracked (R37, R40). -/
theorem TablesRight.withNoPositions {s t : State} (h : TablesRight s) (hmem : t.mem = s.mem) (hnone : t.scan.positions = [])
    (hclasses : t.tr.classes = s.tr.classes) (hentries : t.tr.entries = s.tr.entries) : TablesRight t := by
  obtain ⟨⟨hm, -, hc, he⟩, -⟩ := h
  refine ⟨⟨hmem ▸ hm, by rw [hnone]; rfl, hclasses ▸ hc, hentries ▸ he⟩, ?_⟩
  rw [RolloverBounded, trackedCount, hnone, trackedIn_nil]
  exact Nat.zero_le 8

theorem TablesRight.withPositions {s t : State} (h : TablesRight s) (hmem : t.mem = s.mem)
    (hclasses : t.tr.classes = s.tr.classes) (hentries : t.tr.entries = s.tr.entries)
    (hpositions : PositionsCanonical t.scan.positions) (h8 : trackedIn t.scan.positions ≤ 8) : TablesRight t := by
  obtain ⟨⟨hm, -, hc, he⟩, -⟩ := h
  exact ⟨⟨hmem ▸ hm, hpositions, hclasses ▸ hc, hentries ▸ he⟩, h8⟩

theorem TablesRight.withSupervisor {s : State} (h : TablesRight s) (u : Supervisor) : TablesRight { s with sup := u } := h

theorem TablesRight.withMemory {s t : State} (h : TablesRight s) (hmem : Memory.wf t.mem = true)
    (hpositions : t.scan.positions = s.scan.positions) (hclasses : t.tr.classes = s.tr.classes)
    (hentries : t.tr.entries = s.tr.entries) : TablesRight t := by
  obtain ⟨⟨-, hp, hc, he⟩, h8⟩ := h
  refine ⟨⟨hmem, hpositions ▸ hp, hclasses ▸ hc, hentries ▸ he⟩, ?_⟩
  rw [RolloverBounded, trackedCount, hpositions]
  exact h8

theorem TablesRight.writes {s t : State} (h : TablesRight s) {ws : List (Nat × Byte)} (hws : ∀ w ∈ ws, w.1 < 64)
    (hmem : t.mem = memWrites s.mem ws) (hpositions : t.scan.positions = s.scan.positions)
    (hclasses : t.tr.classes = s.tr.classes) (hentries : t.tr.entries = s.tr.entries) : TablesRight t :=
  h.withMemory (hmem ▸ memWrites_wf h.1.1 hws) hpositions hclasses hentries

theorem TablesRight.withLayout {s t : State} (h : TablesRight s) (hmem : t.mem = s.mem)
    (hpositions : t.scan.positions = s.scan.positions) (hclasses : Table.wf builtInClass 128 t.tr.classes = true)
    (hentries : Table.wf builtInEntry 640 t.tr.entries = true) : TablesRight t := by
  obtain ⟨⟨hm, hp, -, -⟩, h8⟩ := h
  refine ⟨⟨hmem ▸ hm, hpositions ▸ hp, hclasses, hentries⟩, ?_⟩
  rw [RolloverBounded, trackedCount, hpositions]
  exact h8

theorem tablesRight_hostAction {act : State → State} (ha : HostAction act) {s : State} (h : TablesRight s) :
    TablesRight (act s) := by
  have hstop : TablesRight (stopScanning s) := by
    unfold stopScanning
    split
    · exact h.withNoPositions rfl rfl rfl rfl
    · exact h
  cases ha with
  | stopScan => exact hstop
  | nothing => exact h
  | lamps d => exact (writeLamps_frame d s).tablesRight h
  | command d => exact (startCommand_frame d s).tablesRight h
  | argument i d => exact (writeArg_frame i d s).tablesRight h
  | takeHead => exact (removeHead_frame s).tablesRight h
  | startScan => exact (startScanning_frame s).tablesRight h
  | switch d => exact (writeSwitch_frame d s).tablesRight h
  | release => exact (releaseLevel_frame s).tablesRight h
  | enables d => exact (setEnables_frame _ s).tablesRight h
  | disables d => exact (clearEnables_frame _ s).tablesRight h
  | requests d => exact (setSoft_frame _ s).tablesRight h
  | withdraws d => exact (clearSoft_frame _ s).tablesRight h
  | sources d => exact (clearSources_frame _ s).tablesRight h
  | identify d => exact (startIdentify_frame d s).tablesRight h
  | kick => exact (kickWatchdog_frame s).tablesRight h
  | writeLatch d => exact (fillWriteLatch_frame d s).tablesRight h

theorem tablesRight_hostAccess {c : Instr} {s t : State} (hc : kindOf c = .hostAccess) (h : TablesRight s)
    (ht : exec c s = .next t) : TablesRight t := by
  have hstart := tablesRight_samplePins h
  obtain ⟨-, act, ha, hexec⟩ | ⟨-, value, effect, he, hexec⟩ := exec_hostAccess hc <;> rw [hexec] at ht <;> cases ht
  · obtain ⟨-, hw⟩ | ⟨-, hw⟩ | hw := hostWrite_cases act s <;> rw [hw]
    · exact tablesRight_endStep (tablesRight_hostAction ha hstart)
    · exact tablesRight_endStep hstart
    · exact h
  · have heffect : TablesRight (effect (samplePins s)) := by
      obtain he | ⟨rfl, -⟩ := he
      · exact (readEffect_frame he _).tablesRight hstart
      · exact (unlockFault_frame _).tablesRight hstart
    obtain ⟨-, hr⟩ | ⟨-, hr⟩ | hr | hr := hostRead_cases value effect s <;> rw [hr]
    · exact tablesRight_endStep heffect
    · exact tablesRight_endStep hstart
    · exact h
    · exact h

theorem tablesRight_ownWork {c : Instr} {s t : State} (hw : OwnWork c s t) (h : TablesRight s) : TablesRight t := by
  cases hw with
  | entry k e _ hk => exact h.withLayout rfl rfl h.1.2.2.1 (Table.wf_set h.1.2.2.2 hk)
  | classRecord k e _ hk => exact h.withLayout rfl rfl (Table.wf_set h.1.2.2.1 hk) h.1.2.2.2
  | layout => exact h.withLayout rfl rfl rfl rfl
  | memory _ ws _ _ hws => exact h.writes hws rfl rfl rfl rfl
  | _ => exact h

theorem commandEnds_frame {u t : State} (h : CommandEnds u t) : Frame [.mailbox, .latches, .fault, .cut] u t := by
  cases h with
  | never => exact Frame.refl _ u
  | posts r out => exact (complete_frame r out u).mono
  | reports r out f => exact ((complete_frame r out u).mono).andThen (capture_frame f _)
  | cut => exact (markCut_frame u).mono

theorem tablesRight_command {c : Instr} {s t : State} (hc : kindOf c = .command) (h : TablesRight s)
    (ht : exec c s = .next t) : TablesRight t := by
  obtain hidle | ⟨-, -, v, ⟨u, hu, hv⟩, hstep⟩ := exec_command hc s
  · rw [hidle] at ht
    cases ht
    exact h
  · rw [hstep] at ht
    cases ht
    exact tablesRight_endStep ((commandEnds_frame hv).tablesRight (tablesRight_ownWork hu (tablesRight_samplePins h)))

theorem tablesRight_identify {c : Instr} {s t : State} (hc : kindOf c = .identify) (h : TablesRight s)
    (ht : exec c s = .next t) : TablesRight t := by
  have hstart := tablesRight_samplePins h
  have hevent {phase : ChainPhase} {act : ChainCycle → State → State} (hact : ∀ c, TablesRight (act c s)) :
      TablesRight (chainEvent phase act s) := by
    obtain hidle | ⟨c, -, hevent⟩ := chainEvent_cases phase act s
    · rw [hidle]; exact h
    · rw [hevent]; exact hact c
  cases c
  case selectionStep =>
    obtain rfl | ⟨-, rfl⟩ := exec_selectionStep ht
    · exact h
    · exact tablesRight_endStep ((selectionBody_frame _).tablesRight hstart)
  case presence => cases ht; exact hevent fun c => h
  case presenceReleased => cases ht; exact hevent fun c => h
  case answerWindowTimeout => cases ht; exact hevent fun c => h
  case presenceStuckTimeout => cases ht; exact hevent fun c => h
  case identityShiftEnd bits => cases ht; exact hevent fun c => h
  case chainCycleCompletion =>
    obtain rfl | ⟨c, o, -, rfl⟩ := exec_chainCycleCompletion ht
    · exact h
    · exact tablesRight_endStep ((completionBody_frame c o _).tablesRight hstart)
  all_goals cases hc

theorem tablesRight_tickStep {s : State} (h : TablesRight s) : TablesRight (tickStep s) := by
  have hstart := tablesRight_samplePins h
  unfold tickStep
  split
  · split
    · exact tablesRight_endStep ((tickItems_true_frame _).tablesRight hstart)
    · exact (tickItems_false_frame _).tablesRight hstart
  · exact h

theorem haltBody_frame (s : State) : Frame [.halt, .setFlags, .fault] s (haltBody s) := by
  have hready : Frame [.halt] s { s with sup := { s.sup with haltReady := false } } := by
    refine ⟨rfl, rfl, rfl, ⟨rfl, rfl, rfl⟩, fun p hp => ?_⟩
    cases p <;> simp_all [Part.same]
  exact (hready.mono.andThen (clearTimeFlags_frame _)).andThen (capture_frame _ _)

theorem tablesRight_halt {c : Instr} {s t : State} (hc : kindOf c = .halt) (h : TablesRight s)
    (ht : exec c s = .next t) : TablesRight t := by
  have hdetected := (detectHalt_frame s).tablesRight h
  cases c
  case haltDetection =>
    obtain rfl | ⟨-, -, rfl | ⟨-, -, rfl⟩⟩ := exec_haltDetection ht
    · exact h
    · exact hdetected
    · exact tablesRight_endStep ((haltBody_frame _).tablesRight (tablesRight_samplePins hdetected))
  case oscillatorResume =>
    cases ht
    exact (Frame.ite (resume_frame s) (Frame.refl _ s)).tablesRight h
  all_goals cases hc

/-- A pass leaves canonical positions and tracks at most eight keys (R28). -/
theorem tablesRight_scanPass {seen : BitVec 128} {s : State} (h : TablesRight s) :
    TablesRight (endStep (scanPassBody seen (samplePins s))) := by
  have hstart := tablesRight_samplePins h
  have hframe := scanPassBody_frame seen (samplePins s)
  have hsame (p : Part) (hp : p ∉ Part.latches :: passParts) : p.same (samplePins s)
      (endStep (scanPassBody seen (samplePins s))) := by
    rw [List.mem_cons, not_or] at hp
    exact Part.same_trans (hframe.same p hp.2) ((endStep_changes _).2 p (by simpa using hp.1))
  have hpositions := (scanPass_scan seen s).1
  refine hstart.withPositions (hsame .memory (by decide)) (hsame .classes (by decide)) (hsame .entries (by decide)) ?_ ?_ <;>
    rw [hpositions]
  · exact scanned_canonical _ hstart.1.2.1
  · exact trackedIn_scanned _ hstart.1.2.1 hstart.2

theorem transferWake_frame (s : State) : Frame [.latches] s (transferWake s) :=
  Frame.ite (setLatch_frame .alarm s) (Frame.refl _ s)

theorem tablesRight_startBattery {s : State} (h : TablesRight s) : TablesRight (startBattery s) := by
  have hmem := arbitraryMemory_wf s.starts
  unfold startBattery
  generalize arbitraryMemory s.starts = m at *
  exact h.withMemory hmem rfl rfl rfl

theorem tablesRight_supervisoryWork {c : Instr} {s : State} {body : State → State} (hw : SupervisoryWork s c body)
    (h : TablesRight s) : TablesRight (body (samplePins s)) := by
  have hstart := tablesRight_samplePins h
  cases hw with
  | pin =>
    exact KeptByWork.ite _ (t := { samplePins s with sup := _ }) hstart
      (hstart.withNoPositions (t := enterPartOne _ _) rfl rfl rfl rfl)
  | soft | brownOut | mainOn => exact hstart.withNoPositions rfl rfl rfl rfl
  | loss => exact hstart
  | below => exact (KeptByWork.ite (P := TablesRight) _ (tablesRight_startBattery hstart) hstart).withSupervisor _
  | batteryLoss => exact hstart
  | batteryStart => exact (tablesRight_startBattery (s := setVbat true (samplePins s)) hstart).withSupervisor _
  | sequence cut =>
    cases cut with
    | none =>
      generalize samplePins s = u at hstart ⊢
      have hwritten (r : ResetReason) (b d : Bool) : TablesRight { u with
          mem := memWrites u.mem (fullResetWrites r (batteryLow u.env.pins) u.mem)
          sup := { u.sup with batLow := b, defaults := d, coldMarker := false } } :=
        hstart.writes (fullResetWrites_lt _ _ _) rfl rfl rfl rfl
      have hloaded {v : State} (hv : TablesRight v) : TablesRight (transferWake (restoreLayout (loadConfig v))) :=
        (transferWake_frame _).tablesRight (hv.withLayout (t := restoreLayout (loadConfig v)) rfl rfl rfl rfl)
      exact KeptByWork.ite (P := TablesRight) _ (t := clearTimeFlags _) (hloaded (hwritten _ _ _)) (hloaded (hwritten _ _ _))
    | some k =>
      generalize samplePins s = u at hstart ⊢
      have hwritten (r : ResetReason) (b : Bool) : TablesRight { u with
          mem := memWrites u.mem ((fullResetWrites r (batteryLow u.env.pins) u.mem).take k)
          sup := { u.sup with coldMarker := b } } :=
        hstart.writes (fun w hw => fullResetWrites_lt _ _ _ w (List.mem_of_mem_take hw)) rfl rfl rfl rfl
      refine (KeptByWork.ite (P := TablesRight) _ ?_ ?_).withSupervisor _
      · exact (clearTimeFlags_frame _).tablesRight (hwritten _ _)
      · exact hwritten _ _
  | hostSide cut =>
    generalize samplePins s = u at hstart ⊢
    have hreset : TablesRight (mainDomainReset false u) := hstart.withNoPositions rfl rfl rfl rfl
    cases cut with
    | none =>
      have hwritten : TablesRight { loadConfig (mainDomainReset false u) with
          mem := memWrites u.mem (recordWrites (u.sup.request.getD .watchdog) u.mem) } :=
        hreset.writes (recordWrites_lt _ _) rfl rfl rfl rfl
      exact (transferWake_frame _).tablesRight hwritten
    | some k =>
      have hwritten : TablesRight { mainDomainReset false u with
          mem := memWrites u.mem ((recordWrites (u.sup.request.getD .watchdog) u.mem).take k) } :=
        hreset.writes (fun w hw => recordWrites_lt _ _ w (List.mem_of_mem_take hw)) rfl rfl rfl rfl
      exact hwritten
  | release => exact hstart

theorem tablesRight_exec {c : Instr} {s t : State} (h : TablesRight s) (ht : exec c s = .next t) : TablesRight t := by
  cases hc : kindOf c with
  | hostAccess => exact tablesRight_hostAccess hc h ht
  | command => exact tablesRight_command hc h ht
  | identify => exact tablesRight_identify hc h ht
  | tick =>
    obtain hidle | htick := exec_tick hc s
    · rw [hidle] at ht; cases ht; exact h
    · rw [htick] at ht; cases ht; exact tablesRight_tickStep h
  | scanPass =>
    obtain ⟨seen, rfl⟩ := scanPass_of_kind hc
    obtain rfl | ⟨-, rfl⟩ := exec_scanPass ht
    · exact h
    · exact tablesRight_scanPass h
  | halt => exact tablesRight_halt hc h ht
  | power | fullReset | hostSideReset | sequence | release =>
    obtain rfl | ⟨-, b, rfl⟩ | ⟨body, hbody, rfl⟩ := exec_supervisory ht (by simp [hc])
    · exact h
    · exact h
    · exact tablesRight_endStep (tablesRight_supervisoryWork hbody h)

/-- Settles O57: each kind of step keeps the tables, and a CLK period does not touch them. -/
theorem everyStepKeepsTheTablesCanonical : Obligations.EveryStepKeepsTheTablesCanonical :=
  keptByEveryStep (fun _ _ _ => tablesRight_exec)
    (fun s h => (clkPeriod_frame s).tablesRight (tablesRight_samplePins h)) (fun _ _ h => h)

end Sys2Proof.Machine
end

section
-- One lemma at a time: elaborated side by side they ask for more threads than the memory limit of the check leaves.
set_option Elab.async false
/-!
PROOF. The operations of the resets and of the power states: what each leaves, and what it leaves alone (R174, R177, R178,
R180).
-/

namespace Sys2Proof.Machine

/-! ### The battery domain and the power states -/

/-- The start of the battery domain, whatever its memory then holds (R157). -/
theorem startBattery_frame (s : State) :
    Frame [.calendar, .counters, .adjust, .alarm, .setFlags, .wake, .memory, .starts, .coldMarker] s (startBattery s) := by
  unfold startBattery
  generalize arbitraryMemory s.starts = m
  refine ⟨rfl, rfl, rfl, ⟨rfl, rfl, rfl⟩, fun p hp => ?_⟩
  cases p <;> simp_all [Part.same]

theorem setPower_frame (p : PowerState) (r : ResetPhase) (reason : Option ResetReason) (lost : Bool) (s : State) :
    Frame [.power] s { s with sup := { s.sup with power := p, phase := r, reason := reason, vddLost := lost } } := by
  refine ⟨rfl, rfl, rfl, ⟨rfl, rfl, rfl⟩, fun p hp => ?_⟩
  cases p <;> simp_all [Part.same]

theorem loseVdd_frame (s : State) : Frame [.power] s (loseVdd s) := setPower_frame _ s.sup.phase none true s

/-- VDD below the brown-out level, with the battery domain supplied. -/
theorem enterFromBelow_supplied {s : State} (h : s.sup.power ≠ .dead) : enterFromBelow s =
    { s with sup := { s.sup with power := .brownOut, phase := .held, vddLost := true } } := by
  unfold enterFromBelow
  simp only [if_neg h]

/-- VDD below the brown-out level, from DEAD. -/
theorem enterFromBelow_dead {s : State} (h : s.sup.power = .dead) : enterFromBelow s =
    { startBattery s with sup := { (startBattery s).sup with power := .brownOut, phase := .held, vddLost := true } } := by
  unfold enterFromBelow
  simp only [if_pos h]

theorem enterFromBelow_frame (s : State) :
    Frame [.power, .calendar, .counters, .adjust, .alarm, .setFlags, .wake, .memory, .starts, .coldMarker] s
      (enterFromBelow s) := by
  by_cases hdead : s.sup.power = .dead
  · rw [enterFromBelow_dead hdead]
    exact (startBattery_frame s).trans (setPower_frame _ _ (startBattery s).sup.reason _ _)
  · rw [enterFromBelow_supplied hdead]
    exact (setPower_frame _ _ s.sup.reason _ s).mono

theorem enterFromBelow_power (s : State) : (enterFromBelow s).sup.power = .brownOut ∧ (enterFromBelow s).sup.phase = .held :=
  ⟨rfl, rfl⟩

theorem releaseHost_frame (s : State) : Frame [.power, .stretch, .scanTimer] s (releaseHost s) := by
  refine ⟨rfl, rfl, rfl, ⟨rfl, rfl, rfl⟩, fun p hp => ?_⟩
  cases p <;> simp_all [Part.same, releaseHost]

/-! ### Part 1 -/

/-- Part 1 changes no part but those of the main domain that a reset resets (R177, R178). -/
theorem mainDomainReset_changes (full : Bool) (s : State) : ChangesOnly partOneParts s (mainDomainReset full s) := by
  refine ⟨rfl, fun p hp => ?_⟩
  cases p <;> simp_all [Part.same, partOneParts, mainDomainReset]

theorem mainDomainReset_blocksReset (full : Bool) (s : State) : BlocksReset (mainDomainReset full s) := by
  unfold BlocksReset
  refine ⟨rfl, rfl, rfl, rfl, rfl, rfl, rfl, rfl, rfl, rfl, rfl, rfl, rfl, rfl, rfl, rfl, rfl, rfl, ?_, rfl, rfl, rfl, rfl,
    rfl, rfl, rfl, rfl, rfl, rfl, rfl, rfl, rfl⟩
  rfl

/-! ### The sequences -/

theorem enterStretch_frame (r : ResetReason) (s : State) : Frame [.power, .request, .stretch] s (enterStretch r s) := by
  refine ⟨rfl, rfl, rfl, ⟨rfl, rfl, rfl⟩, fun p hp => ?_⟩
  cases p <;> simp_all [Part.same, enterStretch]

theorem cutSequence_frame (r : ResetReason) (s : State) : Frame [.power, .request, .cut] s (cutSequence r s) := by
  refine ⟨rfl, rfl, rfl, ⟨rfl, rfl, rfl⟩, fun p hp => ?_⟩
  cases p <;> simp_all [Part.same, cutSequence]

theorem setValidated_frame (m : Memory) (low defaults cold : Bool) (s : State) :
    Frame [.memory, .batLow, .defaults, .coldMarker] s
      { s with mem := m, sup := { s.sup with batLow := low, defaults := defaults, coldMarker := cold } } := by
  refine ⟨rfl, rfl, rfl, ⟨rfl, rfl, rfl⟩, fun p hp => ?_⟩
  cases p <;> simp_all [Part.same]

theorem setRecord_frame (m : Memory) (cold : Bool) (s : State) :
    Frame [.memory, .coldMarker] s { s with mem := m, sup := { s.sup with coldMarker := cold } } := by
  refine ⟨rfl, rfl, rfl, ⟨rfl, rfl, rfl⟩, fun p hp => ?_⟩
  cases p <;> simp_all [Part.same]

/-- The wake flag as the bit of the ALARM latch that part 6 sets (R149). -/
theorem transferWake_latches (s : State) :
    (transferWake s).lv.latches = s.lv.latches ||| (if s.tk.wake then 0x0040#16 else 0) := by
  unfold transferWake
  split <;> simp [latchBit, latchNumber]

theorem transferWake_eq (s : State) :
    transferWake s = { s with lv := { s.lv with latches := s.lv.latches ||| (if s.tk.wake then 0x0040#16 else 0) } } := by
  unfold transferWake
  split <;> simp [setLatch, latchBit, latchNumber]

/-- Parts 2 to 7 of a full reset, with the memory and the configuration as given. -/
theorem fullResetParts_frame (r : ResetReason) (s : State) :
    Frame [.latches, .config, .classes, .entries, .memory, .fault, .setFlags, .power, .request, .stretch, .batLow, .defaults,
      .coldMarker] s (fullResetParts r s) := by
  unfold fullResetParts
  refine Frame.trans ?_ (Frame.trans (enterStretch_frame r _) (captureAll_frame _ _)
    (rs := [.power, .request, .stretch, .fault]))
    (ps := [.latches, .config, .classes, .entries, .memory, .setFlags, .batLow, .defaults, .coldMarker])
  refine Frame.thenIf ?_ (clearTimeFlags_frame _)
  refine Frame.trans (setValidated_frame _ _ _ _ s) (Frame.trans (loadConfig_frame _)
    (Frame.trans (restoreLayout_frame _) (transferWake_frame _) (rs := [.latches, .classes, .entries]))
    (rs := [.latches, .config, .classes, .entries]))

theorem fullResetCut_frame (k : Nat) (r : ResetReason) (s : State) :
    Frame [.memory, .coldMarker, .setFlags, .power, .request, .cut] s (fullResetCut k r s) := by
  unfold fullResetCut
  refine Frame.trans ?_ (cutSequence_frame r _) (ps := [.memory, .coldMarker, .setFlags])
  exact Frame.thenIf (setRecord_frame _ _ s).mono (clearTimeFlags_frame _)

theorem hostSideBody_none_changes (s : State) :
    ChangesOnly (.config :: .memory :: partOneParts) s (hostSideBody none s) := by
  refine ((mainDomainReset_changes false s).mono (qs := .config :: .memory :: partOneParts)).trans ?_
  unfold hostSideBody
  generalize mainDomainReset false s = u
  exact ((Frame.trans (Frame.trans (loadConfig_frame u) (setMem_frame _ _) (rs := [.config, .memory]))
    (Frame.trans (transferWake_frame _) (enterStretch_frame _ _) (rs := [.latches, .power, .request, .stretch]))
    (rs := .config :: .memory :: partOneParts))).changesOnly

theorem hostSideBody_some_changes (k : Nat) (s : State) :
    ChangesOnly (.memory :: partOneParts) s (hostSideBody (some k) s) := by
  refine ((mainDomainReset_changes false s).mono (qs := .memory :: partOneParts)).trans ?_
  unfold hostSideBody
  generalize mainDomainReset false s = u
  exact ((setMem_frame _ u).trans (cutSequence_frame _ _) (rs := .memory :: partOneParts)).changesOnly

/-! ### What the sequences leave -/

theorem enterStretch_sup (r : ResetReason) (s : State) : (enterStretch r s).sup = { s.sup with
    phase := .stretch, reason := some r, request := none, stretchTicks := 0, stretchClks := 0 } := rfl

/-- What parts 2 to 7 leave in the supervisor (R177). -/
theorem fullResetParts_sup (r : ResetReason) (s : State) : (fullResetParts r s).sup = { s.sup with
    batLow := batteryLow s.env.pins, defaults := foundInvalid r (batteryLow s.env.pins) s.mem, coldMarker := false,
    phase := .stretch, reason := some r, request := none, stretchTicks := 0, stretchClks := 0 } := by
  unfold fullResetParts
  simp only [captureAll_sup, enterStretch_sup, transferWake_eq]
  split <;> rfl

theorem fullResetParts_fault (r : ResetReason) (s : State) :
    (fullResetParts r s).fault = captureInto s.fault (fullResetFaults r s) := by
  unfold fullResetParts
  simp only [captureAll_fault, enterStretch, transferWake_eq]
  split <;> rfl

theorem fullResetParts_mem (r : ResetReason) (s : State) :
    (fullResetParts r s).mem = memWrites s.mem (fullResetWrites r (batteryLow s.env.pins) s.mem) := by
  unfold fullResetParts
  simp only [captureAll_mem, enterStretch, transferWake_eq]
  split <;> rfl

theorem fullResetParts_cfg (r : ResetReason) (s : State) :
    (fullResetParts r s).cfg = loadedConfig (fullResetParts r s).mem := by
  rw [fullResetParts_mem]
  unfold fullResetParts
  simp only [captureAll_cfg, enterStretch, transferWake_eq]
  split <;> rfl

theorem fullResetParts_tr (r : ResetReason) (s : State) :
    (fullResetParts r s).tr = { s.tr with classes := [], entries := [] } := by
  unfold fullResetParts
  simp only [captureAll_tr, enterStretch, transferWake_eq]
  split <;> rfl

theorem fullResetParts_latches (r : ResetReason) (s : State) :
    (fullResetParts r s).lv.latches = s.lv.latches ||| (if s.tk.wake then 0x0040#16 else 0) := by
  unfold fullResetParts
  simp only [captureAll_lv, enterStretch, transferWake_eq]
  split <;> rfl

/-- Of the timekeeper only the two set flags can change, if the oscillator check found a halt (R155). -/
theorem fullResetParts_tk (r : ResetReason) (s : State) : (fullResetParts r s).tk =
    if s.sup.oscHalt.isSome then { s.tk with timeSet := false, dateSet := false } else s.tk := by
  unfold fullResetParts
  simp only [captureAll_tk, enterStretch, transferWake_eq]
  exact apply_ite (fun u : State => (captureAll (fullResetFaults r s) (enterStretch r u)).tk) (s.sup.oscHalt.isSome = true) _ _

theorem fullResetCut_sup (k : Nat) (r : ResetReason) (s : State) : (fullResetCut k r s).sup = { s.sup with
    coldMarker := s.sup.coldMarker && decide (k ≤ (fullResetWrites r (batteryLow s.env.pins) s.mem).length),
    phase := .held, reason := some r, request := none, cutShort := true } := by
  unfold fullResetCut cutSequence
  dsimp only
  split <;> rfl

theorem fullResetCut_mem (k : Nat) (r : ResetReason) (s : State) : (fullResetCut k r s).mem =
    memWrites s.mem ((fullResetWrites r (batteryLow s.env.pins) s.mem).take k) := by
  unfold fullResetCut cutSequence
  dsimp only
  split <;> rfl

theorem fullResetCut_tk (k : Nat) (r : ResetReason) (s : State) : (fullResetCut k r s).tk =
    if s.sup.oscHalt.isSome && decide ((fullResetWrites r (batteryLow s.env.pins) s.mem).length + 1 < k) then
      { s.tk with timeSet := false, dateSet := false } else s.tk := by
  exact apply_ite (fun u : State => (cutSequence r u).tk) (_ = true) _ _

/-- The state after a host-side reset whose sequence was not cut short (R178). -/
theorem hostSideBody_none (s : State) : hostSideBody none s =
    enterStretch (s.sup.request.getD .watchdog) (transferWake { loadConfig (mainDomainReset false s) with
      mem := memWrites s.mem (recordWrites (s.sup.request.getD .watchdog) s.mem) }) := rfl

theorem hostSideBody_some (k : Nat) (s : State) : hostSideBody (some k) s =
    cutSequence (s.sup.request.getD .watchdog) { mainDomainReset false s with
      mem := memWrites s.mem ((recordWrites (s.sup.request.getD .watchdog) s.mem).take k) } := rfl

theorem hostSideBody_sup (cut : Option Nat) (s : State) : (hostSideBody cut s).sup.power = s.sup.power ∧
    (hostSideBody cut s).sup.phase = if cut.isNone then .stretch else .held := by
  cases cut with
  | none => rw [hostSideBody_none, transferWake_eq]; exact ⟨rfl, rfl⟩
  | some k => rw [hostSideBody_some]; exact ⟨rfl, rfl⟩

theorem hostSideBody_fault (cut : Option Nat) (s : State) : (hostSideBody cut s).fault = s.fault := by
  cases cut with
  | none => rw [hostSideBody_none, transferWake_eq]; rfl
  | some k => rw [hostSideBody_some]; rfl

end Sys2Proof.Machine
end

section
-- One lemma at a time: elaborated side by side they ask for more threads than the memory limit of the check leaves.
set_option Elab.async false
/-!
PROOF. What only the named commands can do: unlock the fault record, write the backup memory, disable the watchdog, and
move nHRST (R134, R158, R169, R179, R180).
-/

namespace Sys2Proof.Machine

/-! ### Properties that most blocks cannot touch -/

/-- The property is kept by the operations that the blocks share, and does not read the levels, the identify engine, the
mailbox, the configuration, the queue, the timekeeper or the halt detector. -/
structure KeptByBlocks (P : State → Prop) : Prop extends KeptByWork P where
  levels : ∀ s x, P s → P { s with lv := x }
  engine : ∀ s e x, P s → P { s with env := e, id := x }
  mailbox : ∀ s x, P s → P { s with mb := x }
  config : ∀ s x, P s → P { s with cfg := x }
  queue : ∀ s x, P s → P { s with tq := x }
  clock : ∀ s x, P s → P { s with tk := x }
  detector : ∀ s d b o r, P s → P { s with sup := { s.sup with detector := d, oscSeen := b, oscHalt := o, haltReady := r } }

namespace KeptByBlocks

variable {P : State → Prop}

theorem hostAction (h : KeptByBlocks P) {act : State → State} (ha : HostAction act) (s : State) (hs : P s) : P (act s) := by
  cases ha with
  | nothing => exact hs
  | lamps d => exact h.translator s _ hs
  | command d => exact KeptByWork.ite _ (h.faults s _ hs) (h.mailbox s _ hs)
  | argument i d => exact h.mailbox s _ hs
  | takeHead => exact h.queue s _ hs
  | stopScan => exact KeptByWork.ite _ (h.repetition _ _ (h.translator _ _ (h.translator _ _ (h.scanner s _ hs)))) hs
  | startScan => exact KeptByWork.ite _ hs (h.scanner _ _ (h.scanner s _ hs))
  | switch d => exact KeptByWork.ite _ (h.levels s _ hs) (KeptByWork.ite _ (h.levels s _ hs) hs)
  | release =>
    unfold releaseLevel
    split
    · exact h.faults s _ hs
    · exact h.levels _ _ (h.levels s _ hs)
  | enables d | disables d | requests d | withdraws d => exact h.levels s _ hs
  | sources d => exact KeptByWork.ite _ (h.clock _ _ (h.levels s _ hs)) (h.levels s _ hs)
  | identify d =>
    unfold startIdentify
    split
    · exact h.faults s _ hs
    · split
      · exact h.faults _ _ (h.engine s s.env _ hs)
      · exact h.engine s s.env _ hs
  | kick => exact KeptByWork.ite _ hs (h.watchdog s _ (fun _ => by simp) hs)
  | writeLatch d => exact h.port s _ hs

theorem readEffect (h : KeptByBlocks P) {effect : State → State} (he : ReadEffect effect) (s : State) (hs : P s) :
    P (effect s) := by
  cases he with
  | nothing => exact hs
  | lost | snapshot => exact h.queue s _ hs
  | readLatch value => exact h.port s _ hs
  | accept =>
    unfold acceptLevel
    split
    · exact h.levels s _ hs
    · exact hs

theorem ownWork (h : KeptByBlocks P) {c : Instr}
    (hmemory : (∃ k, c = .backupWrite k ∨ c = .clearResetRecord k ∨ c = .saveConfig k) → ∀ s m, P s → P { s with mem := m })
    {s t : State} (hw : OwnWork c s t) (hs : P s) : P t := by
  cases hw with
  | nothing => exact hs
  | request => exact h.request s _ (.inl rfl) hs
  | entry | classRecord | layout | locks => exact h.translator s _ hs
  | field | chord | load => exact h.config s _ hs
  | unhold => exact h.latch _ _ (h.translator s _ hs)
  | insert => exact h.queue s _ hs
  | flush => exact h.repetition _ _ (h.queue s _ hs)
  | route => exact h.levels s _ hs
  | time | date | alarm | disarm | adjust => exact h.clock s _ hs
  | memory _ _ _ hc _ => exact hmemory hc s _ hs
  | watchdog w _ hw => exact h.watchdog s w hw hs

theorem selectionBody (h : KeptByBlocks P) (s : State) (hs : P s) : P (selectionBody s) := by
  have hpost (a b : Byte) (u : State) (hu : P u) : P (postResult a b u) := h.engine u u.env _ hu
  have hstart (c : ChainClass) : P (startCycle c s) :=
    KeptByWork.ite _ (h.faults _ _ (hpost _ _ s hs)) (h.engine s s.env _ hs)
  unfold Machine.selectionBody
  simp only
  split
  · exact KeptByWork.ite _ (hpost _ _ s hs) (h.faults _ _ (hpost _ _ s hs))
  · refine KeptByWork.ite _ (hstart .a) (KeptByWork.ite _ (hstart .b) (hpost _ _ _ ?_))
    exact KeptByWork.ite _ (h.clock _ _ (h.levels s _ hs)) (h.levels s _ hs)

theorem identify (h : KeptByBlocks P) {c : Instr} {s t : State} (hc : kindOf c = .identify) (hs : P s)
    (ht : exec c s = .next t) : P t := by
  have hstart := h.sample s hs
  have hevent {phase : ChainPhase} {act : ChainCycle → State → State} (hact : ∀ c, P (act c s)) :
      P (chainEvent phase act s) := by
    obtain hidle | ⟨c, -, hevent⟩ := chainEvent_cases phase act s
    · rw [hidle]; exact hs
    · rw [hevent]; exact hact c
  cases c
  case selectionStep =>
    obtain rfl | ⟨-, rfl⟩ := exec_selectionStep ht
    · exact hs
    · exact h.finish _ (h.selectionBody _ hstart)
  case presence => cases ht; exact hevent fun c => h.engine s _ _ hs
  case presenceReleased => cases ht; exact hevent fun c => h.engine s _ _ hs
  case answerWindowTimeout => cases ht; exact hevent fun c => h.engine s _ _ hs
  case presenceStuckTimeout => cases ht; exact hevent fun c => h.engine s _ _ hs
  case identityShiftEnd bits => cases ht; exact hevent fun c => h.engine s _ _ hs
  case chainCycleCompletion =>
    obtain rfl | ⟨c, o, -, rfl⟩ := exec_chainCycleCompletion ht
    · exact hs
    · exact h.finish _ (h.faults _ _ (h.engine _ _ _ (h.engine _ (samplePins s).env _ hstart)))
  all_goals cases hc

theorem halt (h : KeptByBlocks P) {c : Instr} {s t : State} (hc : kindOf c = .halt) (hs : P s)
    (ht : exec c s = .next t) : P t := by
  have hhalted (u : State) (hu : P u) : P (enterHalted u) := by
    unfold enterHalted
    split <;> exact h.detector _ _ _ _ _ (h.scanner _ _ (h.detector u .halted _ _ _ hu))
  have hdetected : P (detectHalt s) := KeptByWork.ite _ hs (hhalted s hs)
  cases c
  case haltDetection =>
    obtain rfl | ⟨-, -, rfl | ⟨-, -, rfl⟩⟩ := exec_haltDetection ht
    · exact hs
    · exact hdetected
    · exact h.finish _ (h.faults _ _ (h.clock _ _ (h.detector _ _ _ _ false (h.sample _ hdetected))))
  case oscillatorResume =>
    cases ht
    exact KeptByWork.ite _ (h.detector s _ _ _ _ hs) hs
  all_goals cases hc

/-- Outside the supervisory events such a property is kept by every command that neither unlocks the fault record nor writes
the memory. -/
theorem exec (h : KeptByBlocks P) {c : Instr} {s t : State}
    (hunlock : c = .fldbRead ∨ c = .lowByteRead 0x3E#6 → ∀ u, P u → P (unlockFault u))
    (hmemory : (∃ k, c = .backupWrite k ∨ c = .clearResetRecord k ∨ c = .saveConfig k) → ∀ s m, P s → P { s with mem := m })
    (hs : P s) (ht : exec c s = .next t) :
    P t ∨ (∃ b, t = setVbat b s) ∨ ∃ body, SupervisoryWork s c body ∧ t = endStep (body (samplePins s)) := by
  cases hc : kindOf c with
  | hostAccess =>
    left
    obtain ⟨-, act, ha, hexec⟩ | ⟨-, value, effect, he, hexec⟩ := exec_hostAccess hc <;> rw [hexec] at ht <;> cases ht
    · exact h.hostWrite (h.hostAction ha _) hs
    · obtain he | ⟨rfl, hc⟩ := he
      · exact h.hostRead (h.readEffect he _) hs
      · exact h.hostRead (hunlock hc _) hs
  | command => exact .inl (h.command hc (fun u v => h.ownWork hmemory) hs ht)
  | identify => exact .inl (h.identify hc hs ht)
  | tick =>
    left
    obtain hidle | htick := exec_tick hc s
    · rw [hidle] at ht; cases ht; exact hs
    · rw [htick] at ht
      cases ht
      exact h.tickStep (fun u hu => h.clock u _ hu) (fun u _ hu => h.clock u _ hu) hs
  | scanPass =>
    left
    obtain ⟨seen, rfl⟩ := scanPass_of_kind hc
    obtain rfl | ⟨-, rfl⟩ := exec_scanPass ht
    · exact hs
    · exact h.finish _ (h.scanPassBody seen _ (h.sample s hs))
  | halt => exact .inl (h.halt hc hs ht)
  | power | fullReset | hostSideReset | sequence | release =>
    obtain rfl | ⟨-, hvbat⟩ | hwork := exec_supervisory ht (by simp [hc])
    · exact .inl hs
    · exact .inr (.inl hvbat)
    · exact .inr (.inr hwork)

end KeptByBlocks

/-! ### The four properties -/

theorem samplePins_keeps {P : State → Prop} {s : State} (h : ∀ e, P { s with env := e }) : P (samplePins s) := by
  rw [samplePins_eq]
  exact h _

theorem endStep_keeps {P : State → Prop} {s : State} (h : ∀ b x, P { s with lv := x, sup := { s.sup with pwrLow := b } }) :
    P (endStep s) := by
  by_cases hrun : s.sup.power = .mainOn ∧ s.sup.phase ≠ .held
  · rw [endStep_main hrun.1 hrun.2, samplePower_eq]
    exact h _ _
  · rw [endStep_held (by tauto)]
    exact h s.sup.pwrLow _

theorem offer_keeps {P : State → Prop} {s : State} (h : ∀ q x, P { s with tq := q, lv := x }) (r : QRecord) :
    P (offer r s) := by
  unfold offer
  split
  · exact h _ s.lv
  · exact h _ _

/-- A locked fault record stays locked where faults are captured (R131). -/
theorem captureInto_locked {r : FaultRecord} (h : r.locked = true) (fs : List FaultReport) : (captureInto r fs).locked = true := by
  cases fs with
  | nil => exact h
  | cons f rest => simp [captureInto, h]

/-- A property of the fault record, the memory, the watchdog, the power state and the phase that a capture of faults and a
watchdog which stays enabled keep. -/
theorem keptByBlocks_of_reads {Q : FaultRecord → Memory → Watchdog → PowerState → ResetPhase → Prop}
    (hfault : ∀ f m w p r fs, Q f m w p r → Q (captureInto f fs) m w p r)
    (hwatchdog : ∀ f m w x p r, (w.state ≠ .disabled → x.state ≠ .disabled) → Q f m w p r → Q f m x p r) :
    KeptByBlocks (fun s => Q s.fault s.mem s.wd s.sup.power s.sup.phase) where
  sample s h := samplePins_keeps (P := fun s => Q s.fault s.mem s.wd s.sup.power s.sup.phase) (s := s) fun _ => h
  finish s h := endStep_keeps (P := fun s => Q s.fault s.mem s.wd s.sup.power s.sup.phase) (s := s) fun _ _ => h
  port _ _ h := h
  scanner _ _ h := h
  translator _ _ h := h
  repetition _ _ h := h
  latch _ _ h := h
  faults _ _ h := hfault _ _ _ _ _ _ h
  offer _ r h := offer_keeps (P := fun s => Q s.fault s.mem s.wd s.sup.power s.sup.phase) (fun _ _ => h) r
  mark _ h := h
  request _ _ _ h := h
  alarm _ _ h := h
  battery _ _ h := h
  watchdog _ _ hx h := hwatchdog _ _ _ _ _ _ hx h
  stretch _ _ h := h
  complete _ _ _ h := h
  cut _ h := h
  levels _ _ h := h
  engine _ _ _ h := h
  mailbox _ _ h := h
  config _ _ h := h
  queue _ _ h := h
  clock _ _ h := h
  detector _ _ _ _ _ h := h

theorem locked_keptByBlocks : KeptByBlocks (fun s => s.fault.locked = true) :=
  keptByBlocks_of_reads (Q := fun f _ _ _ _ => f.locked = true) (fun _ _ _ _ _ fs h => captureInto_locked h fs)
    fun _ _ _ _ _ _ _ h => h

theorem memory_keptByBlocks (m : Memory) : KeptByBlocks (fun s => s.mem = m) :=
  keptByBlocks_of_reads (Q := fun _ x _ _ _ => x = m) (fun _ _ _ _ _ _ h => h) fun _ _ _ _ _ _ _ h => h

theorem enabled_keptByBlocks : KeptByBlocks (fun s => s.wd.state ≠ .disabled) :=
  keptByBlocks_of_reads (Q := fun _ _ w _ _ => w.state ≠ .disabled) (fun _ _ _ _ _ _ h => h)
    fun _ _ _ _ _ _ hx h => hx h

theorem hostReset_keptByBlocks (b : Bool) : KeptByBlocks (fun s => hostResetAsserted s = b) :=
  keptByBlocks_of_reads
    (Q := fun _ _ _ p r => (p == .brownOut || (p == .mainOn && r != .run)) = b) (fun _ _ _ _ _ _ h => h)
    fun _ _ _ _ _ _ _ h => h

/-! ### The supervisory steps -/

theorem fault_of_supervisory {s : State} {c : Instr} {body : State → State} (hw : SupervisoryWork s c body)
    (hlocked : s.fault.locked = true) : (body (samplePins s)).fault.locked = true ∨
      c = .nreset ∨ c = .softFullReset ∨ c = .returnToMainOn := by
  have hstart : (samplePins s).fault.locked = true := by rwa [samplePins_fault]
  generalize samplePins s = u at hstart ⊢
  have hframe {ps : List Part} {t : State} (h : Frame ps u t) (hp : Part.fault ∉ ps) : t.fault.locked = true := by
    rw [show t.fault = u.fault from h.same .fault hp]
    exact hstart
  cases hw with
  | pin => exact .inr (.inl rfl)
  | soft => exact .inr (.inr (.inl rfl))
  | mainOn => exact .inr (.inr (.inr rfl))
  | sequence cut =>
    left
    cases cut with
    | none =>
      exact (fullResetParts_fault _ _).symm ▸ captureInto_locked hstart _
    | some k => exact hframe (fullResetCut_frame _ _ _) (by decide)
  | hostSide cut => exact .inl ((hostSideBody_fault cut u).symm ▸ hstart)
  | below => exact .inl (hframe (enterFromBelow_frame u) (by decide))
  | batteryStart => exact .inl ((startBattery_frame (setVbat true u)).same .fault (by decide) ▸ hstart)
  | brownOut | loss | batteryLoss | release => exact .inl hstart

theorem memory_of_supervisory {s : State} {c : Instr} {body : State → State} (hw : SupervisoryWork s c body) :
    (body (samplePins s)).mem = s.mem ∨ (∃ k, c = .fullResetSequence k ∨ c = .hostSideReset k) ∨
      (s.sup.power = .dead ∧ (c = .vddBelowBrownOutLevel ∨ c = .vbatPresent)) := by
  have hstart : (samplePins s).mem = s.mem := samplePins_mem s
  cases hw with
  | sequence cut => exact .inr (.inl ⟨cut, .inl rfl⟩)
  | hostSide cut => exact .inr (.inl ⟨cut, .inr rfl⟩)
  | batteryStart h => exact .inr (.inr ⟨h, .inr rfl⟩)
  | below h =>
    by_cases hdead : s.sup.power = .dead
    · exact .inr (.inr ⟨hdead, .inl rfl⟩)
    · rw [enterFromBelow_supplied (by rwa [samplePins_sup])]
      exact .inl hstart
  | pin =>
    refine .inl ?_
    unfold pinReset
    split <;> exact hstart
  | soft | brownOut | mainOn | loss | batteryLoss | release => exact .inl hstart

theorem watchdog_of_supervisory {s : State} {c : Instr} {body : State → State} (hw : SupervisoryWork s c body) :
    (body (samplePins s)).wd = s.wd ∨ c = .nreset ∨ c = .softFullReset ∨ c = .returnToMainOn ∨ c = .brownOutEntry ∨
      ∃ k, c = .hostSideReset k := by
  have hstart : (samplePins s).wd = s.wd := samplePins_wd s
  generalize samplePins s = u at hstart ⊢
  have hframe {ps : List Part} {t : State} (h : Frame ps u t) (hp : Part.watchdog ∉ ps) : t.wd = s.wd :=
    (h.same .watchdog hp).trans hstart
  cases hw with
  | pin => exact .inr (.inl rfl)
  | soft => exact .inr (.inr (.inl rfl))
  | mainOn => exact .inr (.inr (.inr (.inl rfl)))
  | brownOut => exact .inr (.inr (.inr (.inr (.inl rfl))))
  | hostSide cut => exact .inr (.inr (.inr (.inr (.inr ⟨cut, rfl⟩))))
  | sequence cut =>
    cases cut with
    | none => exact .inl (hframe (fullResetParts_frame _ _) (by decide))
    | some k => exact .inl (hframe (fullResetCut_frame _ _ _) (by decide))
  | below => exact .inl (hframe (enterFromBelow_frame u) (by decide))
  | batteryStart => exact .inl (((startBattery_frame (setVbat true u)).same .watchdog (by decide)).trans hstart)
  | loss | batteryLoss | release => exact .inl hstart

theorem hostResetAsserted_eq_true_iff (s : State) : hostResetAsserted s = true ↔
    s.sup.power = .brownOut ∨ (s.sup.power = .mainOn ∧ s.sup.phase ≠ .run) := by
  simp [hostResetAsserted]

theorem hostResetAsserted_of_held {s : State} (hp : s.sup.power = .mainOn ∨ s.sup.power = .brownOut)
    (hr : s.sup.phase ≠ .run) : hostResetAsserted s = true :=
  (hostResetAsserted_eq_true_iff s).2 (hp.elim (fun h => .inr ⟨h, hr⟩) .inl)

theorem hostResetAsserted_of_unpowered {s : State} (hp : s.sup.power = .batteryOnly ∨ s.sup.power = .dead) :
    hostResetAsserted s = false := by
  rcases hp with hp | hp <;> simp [hostResetAsserted, hp]

/-- Where the supervisory steps assert nHRST and where they end its assertion (R174, R177 to R180). -/
theorem hostReset_of_supervisory {s : State} {c : Instr} {body : State → State} (hw : SupervisoryWork s c body) :
    (hostResetAsserted (body (samplePins s)) = true ∧ (hostResetAsserted s = true ∨ c = .nreset ∨ c = .softFullReset ∨
      c = .returnToMainOn ∨ c = .brownOutEntry ∨ c = .vddBelowBrownOutLevel ∨ ∃ k, c = .hostSideReset k)) ∨
    (hostResetAsserted (body (samplePins s)) = false ∧ (hostResetAsserted s = false ∨ c = .nhrstRelease ∨ c = .vddLoss)) := by
  have hsup : (samplePins s).sup = s.sup := samplePins_sup s
  generalize samplePins s = u at hsup ⊢
  have hpower : u.sup.power = s.sup.power := by rw [hsup]
  cases hw with
  | pin h =>
    refine .inl ⟨?_, .inr (.inl rfl)⟩
    unfold pinReset
    split
    · next hphase => exact hostResetAsserted_of_held (.inl (hpower.trans h)) (by rw [hphase]; decide)
    · exact hostResetAsserted_of_held (.inl (hpower.trans h)) (by simp [enterPartOne])
  | soft h =>
    exact .inl ⟨hostResetAsserted_of_held (.inl (hpower.trans ((softReady_iff s).1 h).1)) (by simp [enterPartOne]),
      .inr (.inr (.inl rfl))⟩
  | mainOn =>
    exact .inl ⟨hostResetAsserted_of_held (.inl rfl) (by simp [enterMainOn, enterPartOne]), .inr (.inr (.inr (.inl rfl)))⟩
  | brownOut =>
    exact .inl ⟨hostResetAsserted_of_held (.inr rfl) (by simp [enterBrownOut]), .inr (.inr (.inr (.inr (.inl rfl))))⟩
  | below =>
    obtain ⟨hbrown, hheld⟩ := enterFromBelow_power u
    exact .inl ⟨hostResetAsserted_of_held (.inr hbrown) (by simp [hheld]), .inr (.inr (.inr (.inr (.inr (.inl rfl)))))⟩
  | loss =>
    refine .inr ⟨hostResetAsserted_of_unpowered ?_, .inr (.inr rfl)⟩
    unfold loseVdd
    dsimp only
    split
    · exact .inl rfl
    · exact .inr rfl
  | batteryLoss h =>
    exact .inr ⟨hostResetAsserted_of_unpowered (.inr rfl), .inl (hostResetAsserted_of_unpowered (.inl h))⟩
  | batteryStart h =>
    exact .inr ⟨hostResetAsserted_of_unpowered (.inl rfl), .inl (hostResetAsserted_of_unpowered (.inr h))⟩
  | release h =>
    have hmain : u.sup.power = .mainOn := hpower.trans ((releaseReady_iff s).1 h).1.1.1
    exact .inr ⟨by simp [hostResetAsserted, releaseHost, hmain], .inr (.inl rfl)⟩
  | sequence cut h =>
    obtain ⟨hmain, hphase, -⟩ := (fullResetReady_iff s).1 h
    refine .inl ⟨hostResetAsserted_of_held ?_ ?_, .inl (hostResetAsserted_of_held (.inl hmain) (by simp [hphase]))⟩ <;>
      cases cut
    · exact .inl ((congrArg Supervisor.power (fullResetParts_sup _ u)).trans (hpower.trans hmain))
    · exact .inl ((congrArg Supervisor.power (fullResetCut_sup _ _ u)).trans (hpower.trans hmain))
    · exact (congrArg Supervisor.phase (fullResetParts_sup _ u)).trans_ne (by simp)
    · exact (congrArg Supervisor.phase (fullResetCut_sup _ _ u)).trans_ne (by simp)
  | hostSide cut h =>
    obtain ⟨hmain, -⟩ := (hostSideReady_iff s).1 h
    obtain ⟨hpower', hphase⟩ := hostSideBody_sup cut u
    refine .inl ⟨hostResetAsserted_of_held (.inl (hpower'.trans (hpower.trans hmain))) ?_,
      .inr (.inr (.inr (.inr (.inr (.inr ⟨cut, rfl⟩)))))⟩
    rw [hphase]
    cases cut <;> simp

/-! ### O59 -/

theorem unlocks_only_by_its_commands {c : Instr} {s t : State} (ht : exec c s = .next t) (hlocked : s.fault.locked = true) :
    t.fault.locked = true ∨
      c = .fldbRead ∨ c = .lowByteRead 0x3E#6 ∨ c = .nreset ∨ c = .softFullReset ∨ c = .returnToMainOn := by
  by_cases hread : c = .fldbRead ∨ c = .lowByteRead 0x3E#6
  · exact .inr (by tauto)
  obtain hkept | ⟨b, rfl⟩ | ⟨body, hw, rfl⟩ :=
    locked_keptByBlocks.exec (fun h => absurd h hread) (fun _ _ _ h => h) hlocked ht
  · exact .inl hkept
  · exact .inl hlocked
  · obtain hkept | hc := fault_of_supervisory hw hlocked
    · exact .inl (locked_keptByBlocks.finish _ hkept)
    · exact .inr (.inr (.inr hc))

theorem writes_memory_only_by_its_commands {c : Instr} {s t : State} (ht : exec c s = .next t) : t.mem = s.mem ∨
    (∃ k, c = .backupWrite k ∨ c = .clearResetRecord k ∨ c = .saveConfig k ∨ c = .fullResetSequence k ∨
      c = .hostSideReset k) ∨ (s.sup.power = .dead ∧ (c = .vddBelowBrownOutLevel ∨ c = .vbatPresent)) := by
  by_cases hwriter : ∃ k, c = .backupWrite k ∨ c = .clearResetRecord k ∨ c = .saveConfig k
  · obtain ⟨k, hk⟩ := hwriter
    exact .inr (.inl ⟨k, by tauto⟩)
  obtain hkept | ⟨b, rfl⟩ | ⟨body, hw, rfl⟩ :=
    (memory_keptByBlocks s.mem).exec (fun _ _ h => h) (fun h => absurd h hwriter) rfl ht
  · exact .inl hkept
  · exact .inl rfl
  · obtain hkept | ⟨k, hk⟩ | hdead := memory_of_supervisory hw
    · exact .inl ((memory_keptByBlocks s.mem).finish _ hkept)
    · exact .inr (.inl ⟨k, by tauto⟩)
    · exact .inr (.inr hdead)

theorem disables_only_by_its_commands {c : Instr} {s t : State} (ht : exec c s = .next t) (henabled : s.wd.state ≠ .disabled) :
    t.wd.state ≠ .disabled ∨ c = .nreset ∨ c = .softFullReset ∨ c = .returnToMainOn ∨ c = .brownOutEntry ∨
      ∃ k, c = .hostSideReset k := by
  obtain hkept | ⟨b, rfl⟩ | ⟨body, hw, rfl⟩ := enabled_keptByBlocks.exec (fun _ _ h => h) (fun _ _ _ h => h) henabled ht
  · exact .inl hkept
  · exact .inl henabled
  · obtain hkept | hc := watchdog_of_supervisory hw
    · exact .inl (enabled_keptByBlocks.finish _ (by rwa [hkept]))
    · exact .inr hc

theorem moves_hostReset_only_by_its_commands {c : Instr} {s t : State} (ht : exec c s = .next t) :
    hostResetAsserted t = hostResetAsserted s ∨
    (hostResetAsserted t = true ∧ (c = .nreset ∨ c = .softFullReset ∨ c = .returnToMainOn ∨ c = .brownOutEntry ∨
      c = .vddBelowBrownOutLevel ∨ ∃ k, c = .hostSideReset k)) ∨
    (hostResetAsserted t = false ∧ (c = .nhrstRelease ∨ c = .vddLoss)) := by
  obtain hkept | ⟨b, rfl⟩ | ⟨body, hw, rfl⟩ :=
    (hostReset_keptByBlocks (hostResetAsserted s)).exec (fun _ _ h => h) (fun _ _ _ h => h) rfl ht
  · exact .inl hkept
  · exact .inl rfl
  · obtain ⟨hon, hfrom | hc⟩ | ⟨hoff, hfrom | hc⟩ := hostReset_of_supervisory hw
    · exact .inl (((hostReset_keptByBlocks true).finish _ hon).trans hfrom.symm)
    · exact .inr (.inl ⟨(hostReset_keptByBlocks true).finish _ hon, hc⟩)
    · exact .inl (((hostReset_keptByBlocks false).finish _ hoff).trans hfrom.symm)
    · exact .inr (.inr ⟨(hostReset_keptByBlocks false).finish _ hoff, hc⟩)

/-- Settles O59: the blocks leave the protected state alone, and the supervisory steps touch it only as named. -/
theorem protectedStateYieldsOnlyToItsCommands : Obligations.ProtectedStateYieldsOnlyToItsCommands := by
  intro c s t ht
  refine ⟨fun hlocked hfree => ?_, fun hmem => ?_, fun henabled hdisabled => ?_, fun hoff hon => ?_, fun hon hoff => ?_⟩
  · exact (unlocks_only_by_its_commands ht hlocked).resolve_left (by simp [hfree])
  · exact (writes_memory_only_by_its_commands ht).resolve_left hmem
  · exact (disables_only_by_its_commands ht henabled).resolve_left (by simp [hdisabled])
  · have := moves_hostReset_only_by_its_commands ht
    simpa [hoff, hon] using this
  · have := moves_hostReset_only_by_its_commands ht
    simpa [hoff, hon] using this

end Sys2Proof.Machine
end

section
-- One lemma at a time: elaborated side by side they ask for more threads than the memory limit of the check leaves.
set_option Elab.async false
/-!
PROOF. Key translation: the column of a press, the eight stages of the press pipeline, compose, and the release events (R44
to R60).
-/

namespace Sys2Proof.Machine

/-! ### The column (R47) -/

/-- Settles O20: alt comes first, then ctrl, then the class with the lock state. -/
theorem columnFollowsClassHeldSetAndLocks : Obligations.ColumnFollowsClassHeldSetAndLocks := by
  intro c s hmode
  refine ⟨fun halt => ?_, fun halt hctrl => ?_, fun halt hctrl => ⟨?_, ?_, ?_, ?_⟩⟩
  · simp [selectColumn, halt]
  · simp [selectColumn, halt, hctrl]
  · rintro rfl
    rcases hmode with hmode | hmode <;> simp [selectColumn, halt, hctrl, hmode]
  · rintro d rfl hinvert
    simp [selectColumn, halt, hctrl, hinvert]
  · rintro d rfl hcombine
    simp [selectColumn, halt, hctrl, hcombine]
  · rintro (rfl | rfl) <;> simp [selectColumn, halt, hctrl]

/-! ### Presses that are consumed (R48 to R50) -/

theorem pressEvent_modifier {p : Position} {m : ModClass} {s : State} (h : modifierOf (classOf s p) = some m) :
    pressEvent p s = ({ s with tr := { s.tr with modKeys := (p, m) :: s.tr.modKeys } }, []) := by
  simp [pressEvent, h]

theorem pressEvent_held {p : Position} {s : State} (h : modifierOf (classOf s p) = none) (hheld : s.tr.held = true) :
    pressEvent p s = (leaveHeld s, []) := by
  simp [pressEvent, h, hheld]

/-- The state with the toggles that stage 3 of a press of class `c` leaves (R50). -/
def toggled (c : KeyClass) (s : State) : State := { s with tr := { s.tr with locks := locksAfter c s.tr.locks } }

theorem toggled_frame (c : KeyClass) (s : State) : Frame [.locks] s (toggled c s) := setToggles_frame _ s

theorem toggled_of_no_toggle {c : KeyClass} (h : c ≠ .caps ∧ c ≠ .num ∧ c ≠ .scroll ∧ c ≠ .insert) (s : State) :
    toggled c s = s := by
  have hlocks : locksAfter c s.tr.locks = s.tr.locks := by simp [locksAfter, h]
  rw [toggled, hlocks]

theorem pressEvent_toggle {p : Position} {s : State} (hheld : s.tr.held = false)
    (h : classOf s p = .caps ∨ classOf s p = .num ∨ classOf s p = .scroll) :
    pressEvent p s = (toggled (classOf s p) s, []) := by
  rcases h with h | h | h <;> simp [pressEvent, modifierOf, h, hheld, toggled, locksAfter]

/-- Settles O21: stages 1 to 3 each consume the press. -/
theorem consumedPressesChangeOnlyTheirOwnState : Obligations.ConsumedPressesChangeOnlyTheirOwnState := by
  refine ⟨fun p s hheld hclass => ?_, fun p m s hclass => ?_, fun p s hheld hclass => ?_⟩
  · rw [pressEvent_held hclass hheld]
    exact ⟨rfl, rfl, by simp [leaveHeld, latchBit, latchNumber], (leaveHeld_frame s).changesOnly⟩
  · rw [pressEvent_modifier hclass]
    exact ⟨rfl, rfl, (setModKeys_frame _ s).changesOnly⟩
  · rw [pressEvent_toggle hheld hclass]
    exact ⟨rfl, (toggled_frame _ s).changesOnly, rfl⟩

/-! ### Presses that translate (R51 to R58) -/

/-- A press of a translating class outside HELD goes on to stage 4, with the toggle of INSERT turned. -/
theorem pressEvent_translating {p : Position} {s : State} (hheld : s.tr.held = false) (hclass : Translating (classOf s p)) :
    pressEvent p s = pressTranslating (classOf s p) p (toggled (classOf s p) s) := by
  obtain h | h | h | ⟨d, h⟩ := hclass
  · simp [pressEvent, modifierOf, h, hheld, toggled_of_no_toggle]
  · simp [pressEvent, modifierOf, h, hheld, toggled_of_no_toggle]
  · simp [pressEvent, modifierOf, h, hheld, toggled, locksAfter]
  · simp [pressEvent, modifierOf, h, hheld, toggled_of_no_toggle]

/-- CAPS and NUM stay through stage 3 of a translating press, so it selects the same column and the same modifiers. -/
theorem readings_toggled {c : KeyClass} (hclass : Translating c) (s : State) :
    selectColumn c (toggled c s) = selectColumn c s ∧ currentMods (toggled c s) = currentMods s := by
  have hcaps : (toggled c s).tr.locks.caps = s.tr.locks.caps ∧ (toggled c s).tr.locks.num = s.tr.locks.num := by
    obtain rfl | rfl | rfl | ⟨d, rfl⟩ := hclass <;> simp [toggled, locksAfter]
  unfold selectColumn currentMods
  rw [hcaps.1, hcaps.2]
  exact ⟨rfl, rfl⟩

theorem pressTranslating_chord {c : KeyClass} {p : Position} {i : Fin 4} {s : State} (h : findChord p s = some i) :
    pressTranslating c p s = (chordAction i (clearCompose (cancelRepeat s)), []) := by
  unfold pressTranslating
  dsimp only
  rw [show findChord p (cancelRepeat s) = some i from h]

theorem pressTranslating_digit {p : Position} {d : Fin 10} {s : State} (h : findChord p s = none) (hcompose : s.cfg.compose = 1)
    (halt : altHeld s = true) (hctrl : ctrlHeld s = false) (hshift : shiftHeld s = false) :
    pressTranslating (.keypad (some d)) p s = (addDigit d (cancelRepeat s), []) := by
  have hdigit : composeDigit (.keypad (some d)) (cancelRepeat s) = some d := by
    unfold composeDigit
    rw [show ctrlHeld (cancelRepeat s) = false from hctrl, show shiftHeld (cancelRepeat s) = false from hshift]
    rfl
  have hactive : (s.cfg.compose == 1 && altHeld s) = true := by simp [hcompose, halt]
  unfold pressTranslating
  dsimp only
  rw [show findChord p (cancelRepeat s) = none from h, hdigit]
  exact if_pos hactive

/-- The state in which stage 7 looks the entry up: the repeat is cancelled, and under alt with COMPOSE ON compose is cleared
(R51, R56). -/
def beforeEntry (s : State) : State :=
  if s.cfg.compose = 1 ∧ altHeld s = true then clearCompose (cancelRepeat s) else cancelRepeat s

theorem pressTranslating_entry {c : KeyClass} {p : Position} {s : State} (h : findChord p s = none)
    (hdigit : ¬ IsComposeDigit s c) : pressTranslating c p s = translatePress c p (beforeEntry s) := by
  have halt : altHeld (cancelRepeat s) = altHeld s := rfl
  unfold pressTranslating beforeEntry
  dsimp only
  rw [show findChord p (cancelRepeat s) = none from h]
  by_cases hactive : s.cfg.compose = 1 ∧ altHeld s = true
  · have hnone : composeDigit c (cancelRepeat s) = none := by
      unfold composeDigit
      split
      · next d =>
        refine if_pos ?_
        by_contra hfree
        have hfree : ctrlHeld (cancelRepeat s) = false ∧ shiftHeld (cancelRepeat s) = false := by simpa using hfree
        exact hdigit ⟨hactive.1, hactive.2, hfree.1, hfree.2, d, rfl⟩
      · rfl
    rw [if_pos hactive, hnone]
    exact if_pos (by simpa [halt] using hactive)
  · rw [if_neg hactive]
    exact if_neg (by simpa [halt] using hactive)

theorem beforeEntry_frame (s : State) : Frame [.repetition, .compose] s (beforeEntry s) :=
  Frame.ite ((cancelRepeat_frame s).trans (clearCompose_frame _)) (cancelRepeat_frame s).mono

theorem beforeEntry_rep (s : State) : (beforeEntry s).rep = .idle := by
  unfold beforeEntry
  split <;> rfl

theorem beforeEntry_compose (s : State) : ((beforeEntry s).tr.acc, (beforeEntry s).tr.digits) =
    if s.cfg.compose = 1 ∧ altHeld s = true then (0, 0) else (s.tr.acc, s.tr.digits) := by
  unfold beforeEntry
  split <;> rfl

/-- What stages 7 and 8 read stays through the stages before them. -/
theorem readings_beforeEntry (c : KeyClass) (p : Position) (s : State) :
    selectColumn c (beforeEntry s) = selectColumn c s ∧ currentMods (beforeEntry s) = currentMods s ∧
      (∀ k, entryAt (beforeEntry s) p.val k = entryAt s p.val k) ∧ (beforeEntry s).tr.locks = s.tr.locks := by
  unfold beforeEntry
  split <;> exact ⟨rfl, rfl, fun _ => rfl, rfl⟩

/-! ### Stages 7 and 8 (R57, R58) -/

/-- The KEY record of a press of the position whose entry holds the value (R58). -/
def keyRecord (value : Half) (p : Position) (s : State) : QRecord :=
  { token := value, source := .key, position := some p, mods := some (currentMods s) }

theorem translatePress_badParity {c : KeyClass} {p : Position} {s : State}
    (h : parityGood (entryAt s p.val (columnNumber (selectColumn c s))) = false) : translatePress c p s =
      (s, [⟨.tableParity, .translator, byteOf p.val, byteOf (columnNumber (selectColumn c s))⟩]) := by
  simp [translatePress, h]

theorem isVoid_eq (v : Half) : isVoid v = decide (0x8000 ≤ v.toNat) := by
  rw [isVoid, ← BitVec.msb_eq_getLsbD_last, BitVec.msb_eq_decide]

theorem translatePress_void {c : KeyClass} {p : Position} {s : State}
    (h : parityGood (entryAt s p.val (columnNumber (selectColumn c s))) = true)
    (hvoid : 0x8000 ≤ (entryAt s p.val (columnNumber (selectColumn c s))).value.toNat) : translatePress c p s = (s, []) := by
  simp [translatePress, h, isVoid_eq, hvoid]

theorem translatePress_token {c : KeyClass} {p : Position} {s : State}
    (h : parityGood (entryAt s p.val (columnNumber (selectColumn c s))) = true)
    (htoken : (entryAt s p.val (columnNumber (selectColumn c s))).value.toNat < 0x8000) : translatePress c p s =
      let r := keyRecord (entryAt s p.val (columnNumber (selectColumn c s))).value p s
      (armRepeat p r (offer r s), []) := by
  simp [translatePress, h, isVoid_eq, htoken, keyRecord]

/-! ### Offers (R74, R75) -/

theorem offer_of_room {s : State} (h : s.tq.records.length < 32) (r : QRecord) : offer r s = appendRecord r s := if_pos h

theorem offer_of_full {s : State} (h : 32 ≤ s.tq.records.length) (r : QRecord) : offer r s = discardRecord s :=
  if_neg (Nat.not_lt.2 h)

theorem discardRecord_lost (s : State) : (discardRecord s).tq.lost = (if s.tq.lost = 255 then 255 else s.tq.lost + 1) ∧
    (discardRecord s).lv.latches = s.lv.latches ||| 0x0004#16 := ⟨rfl, rfl⟩

/-! ### O22 -/

/-- Settles O22: no chord and no compose digit, so the entry of the selected column decides. -/
theorem unchordedPressTranslates : Obligations.UnchordedPressTranslates := by
  intro p s hheld hclass hchord hdigit column e u
  have hpress : pressEvent p s = translatePress (classOf s p) p (beforeEntry (toggled (classOf s p) s)) := by
    rw [pressEvent_translating hheld hclass]
    exact pressTranslating_entry (s := toggled (classOf s p) s) hchord hdigit
  have hu : u = (translatePress (classOf s p) p (beforeEntry (toggled (classOf s p) s))).1 := congrArg Prod.fst hpress
  obtain ⟨hcolumn, hmods⟩ := readings_toggled hclass s
  obtain ⟨hcolumn', hmods', hentry, hlocks⟩ := readings_beforeEntry (classOf s p) p (toggled (classOf s p) s)
  have hcompose : ((beforeEntry (toggled (classOf s p) s)).tr.acc, (beforeEntry (toggled (classOf s p) s)).tr.digits) =
      if s.cfg.compose = 1 ∧ altHeld s = true then (0, 0) else (s.tr.acc, s.tr.digits) :=
    beforeEntry_compose (toggled (classOf s p) s)
  have hframe : Frame [.repetition, .locks, .compose] s (beforeEntry (toggled (classOf s p) s)) :=
    (toggled_frame _ s).trans (beforeEntry_frame _)
  have hrep := beforeEntry_rep (toggled (classOf s p) s)
  generalize beforeEntry (toggled (classOf s p) s) = v at *
  have hcolumn : columnNumber (selectColumn (classOf s p) v) = column := by rw [hcolumn', hcolumn]
  have hentry : entryAt v p.val (columnNumber (selectColumn (classOf s p) v)) = e := by
    rw [hcolumn, hentry]
    rfl
  have hlast := translatePress_frame (classOf s p) p v
  refine ⟨?_, ?_, fun hbad => ?_, fun hgood => ?_, fun hgood hvoid => ?_, fun hgood htoken => ?_⟩
  · rw [hu, hlast.same .locks (by decide), hlocks]
    rfl
  · obtain ⟨hacc, hdigits⟩ := hlast.same .compose (by decide)
    rw [hu, hacc, hdigits, hcompose]
  · rw [hpress, hu, translatePress_badParity (by rwa [hentry]), hcolumn]
    exact ⟨rfl, hrep, hframe.changesOnly⟩
  · rw [hpress]
    by_cases hvoid : 0x8000 ≤ e.value.toNat
    · rw [translatePress_void (by rwa [hentry]) (by rwa [hentry])]
    · rw [translatePress_token (by rwa [hentry]) (by rw [hentry]; omega)]
  · rw [hu, translatePress_void (by rwa [hentry]) (by rwa [hentry])]
    exact ⟨hrep, hframe.changesOnly⟩
  · intro r
    have hr : keyRecord e.value p v = r := by simp only [keyRecord, hmods', hmods, r]
    rw [hu, translatePress_token (by rwa [hentry]) (by rwa [hentry]), hentry]
    simp only [hr]
    have hqueue : v.tq.records = s.tq.records := hframe.same .records (by decide)
    refine ⟨?_, fun hroom => ?_, fun hfull => ?_⟩
    · have hdelay : delayTicks (offer r v).cfg = 16 * (s.cfg.repeatDelay.toNat + 1) := by
        rw [(offer_frame r v).same .config (by decide), hframe.same .config (by decide), delayTicks, Nat.mul_comm]
      exact congrArg (Repeat.armed .delay p { r with source := .repeated }) hdelay
    · rw [offer_of_room (by rwa [hqueue])]
      refine ⟨congrArg (· ++ [r]) hqueue, Frame.changesOnly ?_⟩
      exact hframe.trans ((appendRecord_frame r v).trans (armRepeat_frame p r _) (rs := [.records, .repetition]))
    · rw [offer_of_full (by rwa [hqueue])]
      obtain ⟨hlost, hlatches⟩ := discardRecord_lost v
      rw [hframe.same .lost (by decide)] at hlost
      rw [hframe.same .latches (by decide)] at hlatches
      exact ⟨hlost, hlatches, (hframe.trans ((discardRecord_frame v).trans (armRepeat_frame p r _)
        (rs := [.lost, .latches, .repetition]))).changesOnly⟩

/-! ### Chords (R52 to R55) -/

theorem chordMatches_iff (c : Chord) (p : Position) (s : State) : chordMatches c p s = true ↔
    c.enabled = true ∧ c.position = p ∧ c.shift = shiftHeld s ∧ c.ctrl = ctrlHeld s ∧ c.alt = altHeld s := by
  simp [chordMatches, and_assoc]

/-- The entry of the lowest number among those that match (R52). -/
theorem findChord_eq_some {p : Position} {i : Fin 4} {s : State} (h : chordMatches s.cfg.chords[i] p s = true)
    (hfirst : ∀ j, j < i → ¬ chordMatches s.cfg.chords[j] p s = true) : findChord p s = some i := by
  rw [findChord, List.find?_eq_some_iff_getElem]
  refine ⟨h, i.val, by simp, by simp, fun j hj => ?_⟩
  have hlt : (⟨j, hj.trans i.isLt⟩ : Fin 4) < i := hj
  simpa using hfirst _ hlt

/-- The state in which a chord entry acts: the toggles turned, the repeat cancelled, compose cleared (R50 to R52). -/
def beforeChord (c : KeyClass) (s : State) : State := clearCompose (cancelRepeat (toggled c s))

theorem beforeChord_frame (c : KeyClass) (s : State) : Frame [.repetition, .locks, .compose] s (beforeChord c s) :=
  (toggled_frame c s).trans ((cancelRepeat_frame _).trans (clearCompose_frame _) (rs := [.repetition, .compose]))

theorem chordAction_attention {i : Fin 4} {s : State} (h : s.cfg.chords[i].action = .attention) :
    chordAction i s = recordChord i s := by
  unfold chordAction
  rw [h]

theorem chordAction_flushMark {i : Fin 4} {s : State} (h : s.cfg.chords[i].action = .flushMark) :
    chordAction i s = recordChord i (appendRecord markerRecord (emptyQueue (cancelRepeat s))) := by
  unfold chordAction
  rw [h]

theorem chordAction_hold {i : Fin 4} {s : State} (h : s.cfg.chords[i].action = .hold) :
    chordAction i s = setLatch .hold (cancelRepeat { s with tr := { s.tr with held := true } }) := by
  unfold chordAction
  rw [h]

theorem chordAction_hostReset {i : Fin 4} {s : State} (h : s.cfg.chords[i].action = .hostReset) :
    chordAction i s = requestReset .chord s := by
  unfold chordAction
  rw [h]

/-- Whatever the action, the repeat stays cancelled, and the toggles and compose are left as they stand. -/
theorem chordAction_rep {i : Fin 4} {s : State} (h : s.rep = .idle) : (chordAction i s).rep = .idle := by
  unfold chordAction
  split
  · exact h
  · rfl
  · rfl
  · exact h

theorem chordAction_tr (i : Fin 4) (s : State) : (chordAction i s).tr.locks = s.tr.locks ∧
    (chordAction i s).tr.acc = s.tr.acc ∧ (chordAction i s).tr.digits = s.tr.digits := by
  unfold chordAction
  split <;> exact ⟨rfl, rfl, rfl⟩

/-- Settles O23: the first entry that agrees is the one found, and acts on the state that stages 3 to 5 leave. -/
theorem firstMatchingChordActs : Obligations.FirstMatchingChordActs := by
  rintro p i s hheld hclass ⟨hagrees, hfirst⟩ u
  have hfound : findChord p s = some i :=
    findChord_eq_some ((chordMatches_iff _ p s).2 hagrees) fun j hj h => hfirst j hj ((chordMatches_iff _ p s).1 h)
  have hpress : pressEvent p s = (chordAction i (beforeChord (classOf s p) s), []) := by
    rw [pressEvent_translating hheld hclass]
    exact pressTranslating_chord (s := toggled (classOf s p) s) hfound
  have hu : u = chordAction i (beforeChord (classOf s p) s) := congrArg Prod.fst hpress
  have hframe := beforeChord_frame (classOf s p) s
  obtain ⟨hlocks, hacc, hdigits⟩ := chordAction_tr i (beforeChord (classOf s p) s)
  refine ⟨by rw [hpress], by rw [hu]; exact chordAction_rep rfl, by rw [hu]; exact hacc, by rw [hu]; exact hdigits,
    by rw [hu]; exact hlocks, fun haction => ?_, fun haction => ?_, fun haction => ?_, fun haction hrequest => ?_⟩
  · rw [hu, chordAction_attention (s := beforeChord _ s) haction]
    exact ⟨rfl, rfl, (hframe.trans (recordChord_frame i _)).changesOnly⟩
  · rw [hu, chordAction_flushMark (s := beforeChord _ s) haction]
    refine ⟨rfl, rfl, rfl, Frame.changesOnly (hframe.trans ?_ (qs := [.repetition, .records, .lastChord, .latches]))⟩
    exact ((cancelRepeat_frame _).trans (emptyQueue_frame _) : Frame [.repetition, .records] _ _).trans
      ((appendRecord_frame _ _).trans (recordChord_frame i _) : Frame [.records, .lastChord, .latches] _ _)
  · rw [hu, chordAction_hold (s := beforeChord _ s) haction]
    refine ⟨rfl, rfl, Frame.changesOnly (hframe.trans ?_ (qs := [.held, .repetition, .latches]))⟩
    exact ((setHeld_frame true _).trans (cancelRepeat_frame _) : Frame [.held, .repetition] _ _).trans (setLatch_frame _ _)
  · rw [hu, chordAction_hostReset (s := beforeChord _ s) haction]
    refine ⟨?_, (hframe.trans (requestReset_frame _ _)).changesOnly⟩
    show some (mergeWith s.sup.request .chord) = some .chord
    rw [hrequest]
    rfl

/-! ### Releases and compose (R56, R59, R60) -/

/-- The state with the key of the position taken out of the modifier key list (R59). -/
def withoutKey (p : Position) (s : State) : State :=
  { s with tr := { s.tr with modKeys := s.tr.modKeys.filter (fun k => k.1 != p) } }

theorem withoutKey_frame (p : Position) (s : State) : Frame [.modKeys] s (withoutKey p s) := setModKeys_frame _ s

/-- A release that does not end alt. -/
theorem releaseEvent_plain {p : Position} {s : State} (h : ¬ (altHeld s = true ∧ altHeld (withoutKey p s) = false)) :
    releaseEvent p s = releaseRepeat p (withoutKey p s) := by
  have hnot : ¬ (altHeld s && !altHeld (withoutKey p s)) = true := by simpa using h
  exact congrArg (releaseRepeat p) (if_neg hnot)

/-- A release that ends alt. -/
theorem releaseEvent_endsAlt {p : Position} {s : State} (h : altHeld s = true) (hend : altHeld (withoutKey p s) = false) :
    releaseEvent p s = releaseRepeat p (completeCompose (withoutKey p s)) := by
  have hends : (altHeld s && !altHeld (withoutKey p s)) = true := by simp [h, hend]
  exact congrArg (releaseRepeat p) (if_pos hends)

theorem completeCompose_forms {s : State} (h : s.cfg.compose = 1 ∧ s.tr.digits ≠ 0 ∧ s.tr.acc ≠ 0) :
    completeCompose s = clearCompose (offer (composeRecord s) s) := by
  have hforms : (s.cfg.compose == 1 && s.tr.digits != 0 && s.tr.acc != 0) = true := by simpa [and_assoc] using h
  exact congrArg clearCompose (if_pos hforms)

theorem completeCompose_nothing {s : State} (h : ¬ (s.cfg.compose = 1 ∧ s.tr.digits ≠ 0 ∧ s.tr.acc ≠ 0)) :
    completeCompose s = clearCompose s := by
  have hnot : ¬ (s.cfg.compose == 1 && s.tr.digits != 0 && s.tr.acc != 0) = true := by simpa [and_assoc] using h
  exact congrArg clearCompose (if_neg hnot)

theorem releaseRepeat_idle {p : Position} {s : State} (h : s.rep = .idle) : (releaseRepeat p s).rep = .idle := by
  unfold releaseRepeat
  simp [h]

theorem releaseRepeat_armed {p q : Position} {s : State} {phase : RepeatPhase} {r : QRecord} {n : Nat}
    (h : s.rep = .armed phase q r n) : (releaseRepeat p s).rep = if q = p then .idle else .armed phase q r n := by
  unfold releaseRepeat
  simp only [h]
  split
  · rfl
  · exact h

/-- What a release leaves of the armed repeat (R59). -/
theorem releaseEvent_rep (p : Position) (s : State) :
    (s.rep = .idle → (releaseEvent p s).rep = .idle) ∧
    ∀ phase q r n, s.rep = .armed phase q r n → (releaseEvent p s).rep = if q = p then .idle else .armed phase q r n := by
  obtain ⟨u, hrelease, hrep⟩ : ∃ u, releaseEvent p s = releaseRepeat p u ∧ u.rep = s.rep := by
    by_cases hends : altHeld s = true ∧ altHeld (withoutKey p s) = false
    · exact ⟨_, releaseEvent_endsAlt hends.1 hends.2, (completeCompose_frame _).same .repetition (by decide)⟩
    · exact ⟨_, releaseEvent_plain hends, rfl⟩
  rw [hrelease]
  exact ⟨fun h => releaseRepeat_idle (hrep.trans h), fun _ _ _ _ h => releaseRepeat_armed (hrep.trans h)⟩

theorem releaseEvent_modKeys (p : Position) (s : State) :
    (releaseEvent p s).tr.modKeys = s.tr.modKeys.filter (fun k => k.1 != p) := by
  by_cases hends : altHeld s = true ∧ altHeld (withoutKey p s) = false
  · rw [releaseEvent_endsAlt hends.1 hends.2, (releaseRepeat_frame p _).same .modKeys (by decide),
      (completeCompose_frame _).same .modKeys (by decide)]
    rfl
  · rw [releaseEvent_plain hends, (releaseRepeat_frame p _).same .modKeys (by decide)]
    rfl

/-- The state after the release that ends alt: compose is cleared, and the record offered if one forms (R60). -/
theorem releaseEvent_endsAlt_cleared {p : Position} {s : State} (h : altHeld s = true)
    (hend : altHeld (withoutKey p s) = false) : (releaseEvent p s).tr.acc = 0 ∧ (releaseEvent p s).tr.digits = 0 := by
  rw [releaseEvent_endsAlt h hend]
  exact (releaseRepeat_frame p (completeCompose (withoutKey p s))).same .compose (by decide)

/-- Without a record to form the queue is left alone (R60). -/
theorem releaseEvent_endsAlt_nothing {p : Position} {s : State} (h : altHeld s = true)
    (hend : altHeld (withoutKey p s) = false) (hnot : ¬ (s.cfg.compose = 1 ∧ s.tr.digits ≠ 0 ∧ s.tr.acc ≠ 0)) :
    Frame [.modKeys, .compose, .repetition] s (releaseEvent p s) := by
  rw [releaseEvent_endsAlt h hend, completeCompose_nothing (s := withoutKey p s) hnot]
  exact (withoutKey_frame p s).trans ((clearCompose_frame _).trans (releaseRepeat_frame p _) (rs := [.compose, .repetition]))

/-- The record that forms goes to a queue with room (R60, R74). -/
theorem releaseEvent_endsAlt_room {p : Position} {s : State} (h : altHeld s = true)
    (hend : altHeld (withoutKey p s) = false) (hforms : s.cfg.compose = 1 ∧ s.tr.digits ≠ 0 ∧ s.tr.acc ≠ 0)
    (hroom : s.tq.records.length < 32) :
    (releaseEvent p s).tq.records = s.tq.records ++ [composeRecord (withoutKey p s)] ∧
      Frame [.modKeys, .compose, .repetition, .records] s (releaseEvent p s) := by
  rw [releaseEvent_endsAlt h hend, completeCompose_forms (s := withoutKey p s) hforms,
    offer_of_room (s := withoutKey p s) hroom]
  refine ⟨(releaseRepeat_frame p _).same .records (by decide), (withoutKey_frame p s).trans
    ((appendRecord_frame _ _).trans ((clearCompose_frame _).trans (releaseRepeat_frame p _) (rs := [.compose, .repetition]))
      (rs := [.records, .compose, .repetition]))⟩

/-- The record that forms is counted and latched on a full queue (R60, R75). -/
theorem releaseEvent_endsAlt_full {p : Position} {s : State} (h : altHeld s = true)
    (hend : altHeld (withoutKey p s) = false) (hforms : s.cfg.compose = 1 ∧ s.tr.digits ≠ 0 ∧ s.tr.acc ≠ 0)
    (hfull : 32 ≤ s.tq.records.length) :
    (releaseEvent p s).tq.lost = (if s.tq.lost = 255 then 255 else s.tq.lost + 1) ∧
      (releaseEvent p s).lv.latches = s.lv.latches ||| 0x0004#16 ∧
      Frame [.modKeys, .compose, .repetition, .lost, .latches] s (releaseEvent p s) := by
  rw [releaseEvent_endsAlt h hend, completeCompose_forms (s := withoutKey p s) hforms,
    offer_of_full (s := withoutKey p s) hfull]
  refine ⟨(releaseRepeat_frame p _).same .lost (by decide), (releaseRepeat_frame p _).same .latches (by decide),
    (withoutKey_frame p s).trans
    ((discardRecord_frame _).trans ((clearCompose_frame _).trans (releaseRepeat_frame p _) (rs := [.compose, .repetition]))
      (rs := [.lost, .latches, .compose, .repetition]))⟩

theorem addDigit_compose (d : Fin 10) (s : State) :
    (addDigit d s).tr.acc.toNat = (s.tr.acc.toNat * 10 + d.val) % 256 ∧
      (addDigit d s).tr.digits.toNat = min 255 (s.tr.digits.toNat + 1) := by
  constructor
  · have hd : (byteOf d.val).toNat = d.val := by simp [byteOf, Nat.mod_eq_of_lt (show d.val < 256 by omega)]
    simp [addDigit, BitVec.toNat_add, BitVec.toNat_mul, hd]
  · have hlt := s.tr.digits.isLt
    simp only [addDigit]
    split
    · next hmax => simp [hmax]
    · next hmax =>
      have hne : s.tr.digits.toNat ≠ 255 := fun h => hmax (BitVec.eq_of_toNat_eq h)
      rw [BitVec.toNat_add]
      simp
      omega

/-- The token queue has three parts. -/
theorem Frame.tq_eq {ps : List Part} {s t : State} (h : Frame ps s t)
    (hps : .records ∉ ps ∧ .lost ∉ ps ∧ .headLatch ∉ ps := by decide) : t.tq = s.tq := by
  have hrecords : t.tq.records = s.tq.records := h.same .records hps.1
  have hlost : t.tq.lost = s.tq.lost := h.same .lost hps.2.1
  have hhead : t.tq.headLatch = s.tq.headLatch := h.same .headLatch hps.2.2
  calc t.tq = ⟨t.tq.records, t.tq.lost, t.tq.headLatch⟩ := rfl
    _ = s.tq := by rw [hrecords, hlost, hhead]

/-- A compose digit joins the accumulator and is consumed (R56). -/
theorem pressEvent_digit {p : Position} {d : Fin 10} {s : State} (hheld : s.tr.held = false) (hcompose : s.cfg.compose = 1)
    (hclass : classOf s p = .keypad (some d)) (halt : altHeld s = true) (hctrl : ctrlHeld s = false)
    (hshift : shiftHeld s = false) (hchord : findChord p s = none) :
    pressEvent p s = (addDigit d (cancelRepeat s), []) := by
  rw [pressEvent_translating hheld (.inr (.inr (.inr ⟨_, hclass⟩))), hclass, toggled_of_no_toggle (by simp),
    pressTranslating_digit hchord hcompose halt hctrl hshift]

theorem any_alt (keys : List (Position × ModClass)) : (keys.any fun k => k.2 == .altL || k.2 == .altR) =
    ((keys.any fun k => k.2 == .altL) || keys.any fun k => k.2 == .altR) := by
  induction keys with
  | nil => rfl
  | cons k rest ih => simp only [List.any_cons, ih]; grind

/-- Settles O24: the digit stage, the release that ends alt, and every release. -/
theorem composeCollectsDigitsUntilAltEnds : Obligations.ComposeCollectsDigitsUntilAltEnds := by
  refine ⟨fun p d s hheld hcompose hclass halt hctrl hshift hchord => ?_, fun p s hcompose halt => ⟨?_, fun p s => ?_⟩⟩
  · obtain ⟨hacc, hdigits⟩ := addDigit_compose d (cancelRepeat s)
    rw [pressEvent_digit hheld hcompose hclass halt hctrl hshift hchord]
    exact ⟨rfl, hacc, hdigits, rfl, ((cancelRepeat_frame s).trans (addDigit_frame d _)).changesOnly⟩
  · intro rest held hleft hright u
    have hend : altHeld (withoutKey p s) = false := Bool.or_eq_false_iff.2 ⟨hleft, hright⟩
    obtain ⟨hacc, hdigits⟩ := releaseEvent_endsAlt_cleared halt hend
    refine ⟨releaseEvent_modKeys p s, hacc, hdigits, fun hd ha hroom => ?_, fun hnot => ?_⟩
    · rw [(releaseEvent_endsAlt_room halt hend ⟨hcompose, hd, ha⟩ hroom).1]
      simp only [composeRecord, currentMods, hend]
      rfl
    · exact (releaseEvent_endsAlt_nothing halt hend (by tauto)).tq_eq
  · intro rest altLeft ends forms u
    have hends : ends ↔ altHeld s = true ∧ altHeld (withoutKey p s) = false := by
      show altHeld s = true ∧ rest.any (fun k => k.2 == .altL || k.2 == .altR) = false ↔ _
      rw [any_alt]
      rfl
    obtain ⟨hidle, harmed⟩ := releaseEvent_rep p s
    refine ⟨releaseEvent_modKeys p s, ?_, fun hnot => ?_, fun h => ?_, fun h hnot => ?_, fun h hforms hroom => ?_,
      fun h hforms hfull => ?_⟩
    · split
      · next h => exact hidle h
      · next h => exact harmed _ _ _ _ h
    · show ChangesOnly _ s (releaseEvent p s)
      rw [releaseEvent_plain (by rwa [← hends])]
      exact ((withoutKey_frame p s).trans (releaseRepeat_frame p _)).changesOnly
    · obtain ⟨halt, hend⟩ := hends.1 h
      exact releaseEvent_endsAlt_cleared halt hend
    · obtain ⟨halt, hend⟩ := hends.1 h
      exact (releaseEvent_endsAlt_nothing halt hend hnot).changesOnly
    · obtain ⟨halt, hend⟩ := hends.1 h
      obtain ⟨hrecords, hframe⟩ := releaseEvent_endsAlt_room halt hend hforms hroom
      exact ⟨⟨_, hrecords, rfl, rfl⟩, hframe.changesOnly⟩
    · obtain ⟨halt, hend⟩ := hends.1 h
      obtain ⟨hlost, hlatches, hframe⟩ := releaseEvent_endsAlt_full halt hend hforms hfull
      exact ⟨hlost, hlatches, hframe.changesOnly⟩

end Sys2Proof.Machine
end

section
-- One lemma at a time: elaborated side by side they ask for more threads than the memory limit of the check leaves.
set_option Elab.async false
/-!
PROOF. The timebase tick: the clock, the alarm, the latches of its events, the repeat countdown and the watchdog (R85, R139
to R141, R148, R150, R151, R167, R170).
-/

namespace Sys2Proof.Machine

/-! ### The clock (R139 to R141, R152) -/

theorem advance_cal (t : Timekeeper) : (advance t).cal = if atBoundary t then carrySecond t.cal else t.cal := rfl

theorem atBoundary_iff {t : Timekeeper} (h : t.sub < 64) : atBoundary t = true ↔ t.sub = 63 := by
  simp only [atBoundary, decide_eq_true_eq]
  omega

theorem advance_sub {t : Timekeeper} (h : t.sub < 64) : (advance t).sub = (t.sub + 1) % 64 := by
  simp only [advance]
  split
  · next hb => rw [(atBoundary_iff h).1 hb]
  · next hb =>
    have hb := mt (atBoundary_iff h).2 hb
    omega

theorem advance_interval {t : Timekeeper} : ((advance t).interval : Int) =
    if (advance t).sub = 63 ∧ (advance t).adjSecond = 63 then 512 - t.adjust.toInt else 512 := by
  have hlt := BitVec.toInt_lt (x := t.adjust)
  show ((intervalLength (advance t).sub (advance t).adjSecond t.adjust : Nat) : Int) = _
  unfold intervalLength
  split
  · rw [Int.toNat_of_nonneg (by omega)]
  · rfl

theorem secondsOfDay_eq_iff {s : State} (h : CalendarInRange s) : secondsOfDay s.tk.cal = 86399 ↔
    s.tk.cal.second = 59 ∧ s.tk.cal.minute = 59 ∧ s.tk.cal.hour = 23 := by
  obtain ⟨hsecond, hminute, hhour, -⟩ := h
  unfold secondsOfDay
  omega

theorem atMidnight_iff {s : State} (h : CalendarInRange s) :
    atMidnight s.tk = true ↔ s.tk.sub = 63 ∧ secondsOfDay s.tk.cal = 86399 := by
  obtain ⟨-, -, -, -, -, -, -, -, -, hsub, -⟩ := id h
  rw [secondsOfDay_eq_iff h, ← atBoundary_iff hsub]
  simp [atMidnight, and_assoc]

/-- The carry is one second of the calendar (R141). -/
theorem carrySecond_later {s : State} (h : CalendarInRange s) : OneSecondLater s.tk.cal (carrySecond s.tk.cal) := by
  obtain ⟨hsecond, hminute, hhour, hmonth1, hmonth12, hday1, hday, hyear, hweekday, -, -⟩ := h
  unfold OneSecondLater
  by_cases hsec : s.tk.cal.second + 1 < 60
  · have hlast : secondsOfDay s.tk.cal + 1 < 86400 := by unfold secondsOfDay; omega
    have hcarry : carrySecond s.tk.cal = { s.tk.cal with second := s.tk.cal.second + 1 } := if_pos hsec
    rw [hcarry, if_pos hlast]
    refine ⟨?_, hsec, hminute, rfl, rfl, rfl, rfl⟩
    simp only [secondsOfDay] at hlast ⊢
    omega
  by_cases hmin : s.tk.cal.minute + 1 < 60
  · have hlast : secondsOfDay s.tk.cal + 1 < 86400 := by unfold secondsOfDay; omega
    have hcarry : carrySecond s.tk.cal = { s.tk.cal with second := 0, minute := s.tk.cal.minute + 1 } := by
      simp [carrySecond, hsec, hmin]
    rw [hcarry, if_pos hlast]
    refine ⟨?_, Nat.zero_lt_succ _, hmin, rfl, rfl, rfl, rfl⟩
    simp only [secondsOfDay] at hlast ⊢
    omega
  by_cases hhr : s.tk.cal.hour + 1 < 24
  · have hlast : secondsOfDay s.tk.cal + 1 < 86400 := by unfold secondsOfDay; omega
    have hcarry : carrySecond s.tk.cal = { s.tk.cal with second := 0, minute := 0, hour := s.tk.cal.hour + 1 } := by
      simp [carrySecond, hsec, hmin, hhr]
    rw [hcarry, if_pos hlast]
    refine ⟨?_, Nat.zero_lt_succ _, Nat.zero_lt_succ _, rfl, rfl, rfl, rfl⟩
    simp only [secondsOfDay] at hlast ⊢
    omega
  have hlast : ¬ secondsOfDay s.tk.cal + 1 < 86400 := by unfold secondsOfDay; omega
  have hzero : (secondsOfDay s.tk.cal + 1) % 86400 = 0 := by unfold secondsOfDay; omega
  rw [if_neg hlast, hzero]
  simp only [carrySecond, hsec, hmin, hhr, if_false]
  split_ifs <;> simp_all [secondsOfDay]

/-! ### Items 1 to 5 -/

/-- The alarm fires in the tick (R148). -/
def alarmFired (s : State) : Bool := atBoundary s.tk && alarmMatches s.tk.alarm (advance s.tk).cal

/-- The alarm after the tick: one that fires disarms if it is one-shot (R148). -/
def alarmAfter (s : State) : Alarm :=
  if alarmFired s then { s.tk.alarm with armed := s.tk.alarm.armed && !s.tk.alarm.oneShot } else s.tk.alarm

/-- Items 1 to 5 of a tick of the running main domain (R140). -/
def tickClock (s : State) : State :=
  let t := s.tk
  let s := { s with tk := advance t }
  let s := if atMidnight t then setLatch .dayChange s else s
  let s := if atBoundary t then compareAlarm true s else s
  let s := if tickChosen s.cfg.tickRate s.tk.sub then setLatch .tick s else s
  if atBoundary t && s.tk.cal.second == 0 then sampleBattery s else s

theorem tickItems_true (s : State) : tickItems true s = stretchTick (watchdogTick (repeatTick (tickClock s))) := rfl

theorem setLatch_eq_ite (c : Bool) (l : Latch) (s : State) : (if c then setLatch l s else s) =
    { s with lv := { s.lv with latches := s.lv.latches ||| if c then latchBit l else 0 } } := by
  cases c <;> simp [setLatch]

/-- Item 3 in one form, whether the tick is a second boundary and the alarm fires or not. -/
theorem compareAlarm_eq_ite (b : Bool) (s : State) : (if b then compareAlarm true s else s) = { s with
    tk := { s.tk with alarm := if b && alarmMatches s.tk.alarm s.tk.cal then
      { s.tk.alarm with armed := s.tk.alarm.armed && !s.tk.alarm.oneShot } else s.tk.alarm }
    lv := { s.lv with latches := s.lv.latches ||| if b && alarmMatches s.tk.alarm s.tk.cal then latchBit .alarm else 0 } } := by
  unfold compareAlarm
  cases b
  · simp
  · by_cases hmatch : alarmMatches s.tk.alarm s.tk.cal = true <;> simp [hmatch, setLatch]

theorem sampleBattery_eq_ite (b : Bool) (s : State) : (if b then sampleBattery s else s) =
    { s with sup := { s.sup with batLow := if b then batteryLow s.env.pins else s.sup.batLow } } := by
  cases b <;> rfl

/-- BATLOW after the tick: sampled when the carry made the second 0 (R167). -/
def batLowAfter (s : State) : Bool :=
  if atBoundary s.tk && (advance s.tk).cal.second == 0 then batteryLow s.env.pins else s.sup.batLow

/-- What items 1 to 5 leave (R140). -/
theorem tickClock_eq (s : State) : tickClock s = { s with
    tk := { advance s.tk with alarm := alarmAfter s }
    lv := { s.lv with latches := s.lv.latches ||| (if atMidnight s.tk then latchBit .dayChange else 0) |||
      (if alarmFired s then latchBit .alarm else 0) |||
      (if tickChosen s.cfg.tickRate (advance s.tk).sub then latchBit .tick else 0) }
    sup := { s.sup with batLow := batLowAfter s } } := by
  unfold tickClock
  simp only [setLatch_eq_ite, compareAlarm_eq_ite, sampleBattery_eq_ite]
  rfl

/-- The bits of the latch word after items 1 to 5. -/
theorem tickClock_latch (s : State) (n : Nat) (hn : n < 16) : (tickClock s).lv.latches.getLsbD n = (s.lv.latches.getLsbD n ||
    (decide (n = 8) && atMidnight s.tk) || (decide (n = 6) && alarmFired s) ||
    (decide (n = 7) && tickChosen s.cfg.tickRate (advance s.tk).sub)) := by
  have hbit (b : Bool) (l : Latch) : (if b then latchBit l else 0).getLsbD n = (decide (n = latchNumber l) && b) := by
    cases b
    · simp
    · rw [if_pos rfl, Bool.and_true, latchBit, BitVec.getLsbD_shiftLeft, Bool.eq_iff_iff]
      simp
      omega
  rw [tickClock_eq]
  simp only [BitVec.getLsbD_or, hbit, latchNumber]
  rfl

/-! ### Items 6 and 7, and the stretch -/

theorem setLatch_latch (l : Latch) (s : State) (n : Nat) (hn : n < 16) :
    (setLatch l s).lv.latches.getLsbD n = (s.lv.latches.getLsbD n || decide (n = latchNumber l)) := by
  rw [setLatch_lv, BitVec.getLsbD_or, latchBit, BitVec.getLsbD_shiftLeft]
  congr 1
  rw [Bool.eq_iff_iff]
  simp
  omega

theorem repeatTick_idle {s : State} (h : s.rep = .idle) : repeatTick s = s := by
  unfold repeatTick
  rw [h]

theorem repeatTick_counts {s : State} {phase : RepeatPhase} {p : Position} {r : QRecord} {n : Nat}
    (h : s.rep = .armed phase p r (n + 2)) : repeatTick s = { s with rep := .armed phase p r (n + 1) } := by
  unfold repeatTick
  rw [h]
  rfl

theorem repeatTick_expires {s : State} {phase : RepeatPhase} {p : Position} {r : QRecord} {n : Nat}
    (h : s.rep = .armed phase p r n) (hn : n ≤ 1) : repeatTick s = expireRepeat p r s := by
  unfold repeatTick
  rw [h]
  exact if_pos hn

theorem expireRepeat_rep (p : Position) (r : QRecord) (s : State) :
    (expireRepeat p r s).rep = .armed .repeating p r s.cfg.repeatInterval.toNat := by
  have hoffer : (offer r s).cfg = s.cfg := (offer_frame r s).same .config (by decide)
  unfold expireRepeat
  dsimp only
  split
  · rw [hoffer]
  · rfl

/-- Under the throttle the copy is skipped (R85). -/
theorem expireRepeat_skips {p : Position} {r : QRecord} {s : State}
    (h : s.cfg.repeatThrottle ≠ 0 ∧ s.cfg.repeatThrottle.toNat ≤ s.tq.records.length) :
    (expireRepeat p r s).tq = s.tq ∧ (expireRepeat p r s).lv = s.lv := by
  have hskip : ¬ (s.cfg.repeatThrottle = 0 ∨ queueCount s < s.cfg.repeatThrottle.toNat) := by
    rw [not_or, Nat.not_lt]
    exact h
  unfold expireRepeat
  rw [if_neg hskip]
  exact ⟨rfl, rfl⟩

/-- Otherwise it is offered (R85). -/
theorem expireRepeat_offers {p : Position} {r : QRecord} {s : State}
    (h : ¬ (s.cfg.repeatThrottle ≠ 0 ∧ s.cfg.repeatThrottle.toNat ≤ s.tq.records.length)) :
    (expireRepeat p r s).tq = (offer r s).tq ∧ (expireRepeat p r s).lv = (offer r s).lv := by
  have hoffer : s.cfg.repeatThrottle = 0 ∨ queueCount s < s.cfg.repeatThrottle.toNat := by
    by_contra hskip
    rw [not_or, Nat.not_lt] at hskip
    exact h hskip
  unfold expireRepeat
  rw [if_pos hoffer]
  exact ⟨rfl, rfl⟩

/-- Item 6 sets no latch but QUEUE-OVERFLOW. -/
theorem repeatTick_latch {s : State} {n : Nat} (hn : n < 16) (h2 : n ≠ 2) :
    (repeatTick s).lv.latches.getLsbD n = s.lv.latches.getLsbD n := by
  have hoffer (r : QRecord) : (offer r s).lv.latches.getLsbD n = s.lv.latches.getLsbD n := by
    unfold offer
    split
    · rfl
    · exact (setLatch_latch _ _ n hn).trans (by simp [latchNumber, h2])
  unfold repeatTick
  split
  · rfl
  · split
    · unfold expireRepeat
      dsimp only
      split
      · exact hoffer _
      · rfl
    · rfl

theorem watchdogTick_disabled {s : State} (h : s.wd.state = .disabled) : watchdogTick s = s := if_pos h

theorem watchdogDue_iff {w : Watchdog} (h : w.state ≠ .disabled) :
    watchdogDue w = true ↔ 32 * 2 ^ w.active.toNat ≤ w.count + 1 := by
  simp only [watchdogDue, watchdogTicks, bne_iff_ne, ne_eq, h, not_false_eq_true, Bool.and_eq_true, true_and]
  exact ⟨of_decide_eq_true, fun hdue => decide_eq_true hdue⟩

theorem watchdogTick_counts {s : State} (h : s.wd.state ≠ .disabled) (hcount : s.wd.count + 1 < 32 * 2 ^ s.wd.active.toNat) :
    watchdogTick s = { s with wd := { s.wd with count := s.wd.count + 1 } } := by
  have hdue : watchdogDue s.wd = false := by
    rw [← Bool.not_eq_true, watchdogDue_iff h]
    omega
  unfold watchdogTick
  rw [if_neg h, hdue]
  rfl

theorem watchdogTick_first {s : State} (h : s.wd.state = .armed) (hdue : watchdogDue s.wd = true) : watchdogTick s =
    setLatch .watchdog { s with wd := { s.wd with state := .warned, count := 0, active := s.wd.pending } } := by
  unfold watchdogTick
  rw [h, hdue]
  rfl

theorem watchdogTick_second {s : State} (h : s.wd.state = .warned) (hdue : watchdogDue s.wd = true) :
    watchdogTick s = requestReset .watchdog s := by
  unfold watchdogTick
  rw [h, hdue]
  rfl

/-- Item 7 sets no latch but WATCHDOG. -/
theorem watchdogTick_latch {s : State} {n : Nat} (hn : n < 16) (h13 : n ≠ 13) :
    (watchdogTick s).lv.latches.getLsbD n = s.lv.latches.getLsbD n := by
  unfold watchdogTick
  split
  · rfl
  · split
    · rfl
    · split
      · exact (setLatch_latch _ _ n hn).trans (by simp [latchNumber, h13])
      · rfl

theorem stretchTick_sup (s : State) : (stretchTick s).sup = { s.sup with
    stretchTicks := if s.sup.phase = .stretch then s.sup.stretchTicks + 1 else s.sup.stretchTicks } := by
  unfold stretchTick
  split <;> rfl

theorem stretchTick_lv (s : State) : (stretchTick s).lv = s.lv := by
  unfold stretchTick
  split <;> rfl

/-! ### The whole tick -/

theorem exec_timebaseTick_running {s : State} (hr : Runs s) (hn : NotHalted s) :
    exec .timebaseTick s = .next (endStep (tickItems true (samplePins s))) := by
  have hready : oscillatorRuns s = true := (oscillatorRuns_iff s).2 ⟨by simp [hr.1], fun _ => hn⟩
  show Host.Outcome.next (tickStep s) = _
  rw [tickStep, if_pos hready, if_pos (mainRunning_of_runs hr)]
  rfl

theorem tickClock_frame (s : State) : Frame [.calendar, .counters, .alarm, .latches, .batLow] s (tickClock s) := by
  rw [tickClock_eq]
  refine ⟨rfl, rfl, rfl, ⟨rfl, rfl, rfl⟩, fun p hp => ?_⟩
  cases p <;> simp_all [Part.same, advance]

/-- Items 6 and 7 leave the timekeeper and BATLOW as items 1 to 5 left them. -/
theorem tickItems_afterClock (s : State) : Frame [.records, .lost, .latches, .repetition, .watchdog, .request, .stretch]
    (tickClock s) (tickItems true s) :=
  (((repeatTick_frame _).trans (watchdogTick_frame _) (rs := [.records, .lost, .latches, .repetition, .watchdog, .request])).trans
    (stretchTick_frame _))

theorem tickItems_tk (s : State) : (tickItems true s).tk = { advance s.tk with alarm := alarmAfter s } := by
  rw [(tickItems_afterClock s).tk_eq, tickClock_eq]

theorem tickItems_latch {s : State} {n : Nat} (hn : n < 16) (h2 : n ≠ 2) (h13 : n ≠ 13) :
    (tickItems true s).lv.latches.getLsbD n = (tickClock s).lv.latches.getLsbD n := by
  rw [tickItems_true, stretchTick_lv, watchdogTick_latch hn h13, repeatTick_latch hn h2]

theorem fieldMatches_iff (f : Option Nat) (n : Nat) : fieldMatches f n = true ↔ ∀ m, f = some m → m = n := by
  cases f <;> simp [fieldMatches]

/-- The alarm of the model fires exactly where R148 says, whatever state `t` has the new time. -/
theorem alarmFired_iff {s t : State} (hsub : s.tk.sub < 64) (ht : t.tk.cal = (advance s.tk).cal) :
    alarmFired s = true ↔ AlarmFires s t := by
  simp only [alarmFired, AlarmFires, alarmMatches, Bool.and_eq_true, fieldMatches_iff, atBoundary_iff hsub, ht, and_assoc]

theorem tickChosen_iff {s t : State} (hrate : s.cfg.tickRate.toNat ≤ 4) (ht : t.tk.sub = (advance s.tk).sub) :
    tickChosen s.cfg.tickRate (advance s.tk).sub = true ↔ TickChosen s t := by
  unfold TickChosen
  rw [← ht]
  simp only [BitVec.toNat_eq]
  unfold tickChosen
  generalize s.cfg.tickRate.toNat = rate at hrate ⊢
  obtain rfl | rfl | rfl | rfl | rfl : rate = 0 ∨ rate = 1 ∨ rate = 2 ∨ rate = 3 ∨ rate = 4 := by omega
  all_goals simp

theorem alarmAfter_armed (s : State) :
    (alarmAfter s).armed = true ↔ s.tk.alarm.armed = true ∧ ¬ (alarmFired s = true ∧ s.tk.alarm.oneShot = true) := by
  unfold alarmAfter
  split
  · next h => simp [h]
  · next h => simp [h]

theorem alarmAfter_fields (s : State) : alarmAfter s = { s.tk.alarm with armed := (alarmAfter s).armed } := by
  unfold alarmAfter
  split <;> rfl

/-! ### The tick while the main domain does not run -/

theorem tickItems_false_eq (s : State) : tickItems false s = { s with
    tk := { advance s.tk with alarm := alarmAfter s, wake := s.tk.wake || alarmFired s } } := by
  show (if atBoundary s.tk then compareAlarm false { s with tk := advance s.tk } else { s with tk := advance s.tk }) = _
  unfold alarmAfter alarmFired compareAlarm
  by_cases hboundary : atBoundary s.tk = true
  · rw [if_pos hboundary, hboundary]
    have halarm : (advance s.tk).alarm = s.tk.alarm := rfl
    by_cases hmatch : alarmMatches s.tk.alarm (advance s.tk).cal = true
    · simp only [halarm, hmatch]
      simp
    · simp only [halarm, hmatch]
      simp
      rfl
  · rw [if_neg hboundary]
    simp only [hboundary]
    simp
    rfl

theorem exec_timebaseTick_held {s : State} (hr : ¬ Runs s) (hready : TickReady s) :
    exec .timebaseTick s = .next (tickItems false (samplePins s)) := by
  show Host.Outcome.next (tickStep s) = _
  rw [tickStep, if_pos ((oscillatorRuns_iff s).2 hready), if_neg (mt (mainRunning_iff s).1 hr)]

/-! ### O41 and O43 -/

/-- Settles O41: the clock advances the same way whether the main domain runs or not. -/
theorem tickCountsTheClock : Obligations.TickCountsTheClock := by
  intro s hready hrange _
  obtain ⟨-, -, -, -, -, -, -, -, -, hsub, -⟩ := id hrange
  obtain ⟨t, hexec, alarm, wake, htk⟩ : ∃ t, exec .timebaseTick s = .next t ∧
      ∃ a w, t.tk = { advance s.tk with alarm := a, wake := w } := by
    by_cases hr : Runs s
    · refine ⟨_, exec_timebaseTick_running hr (hready.2 hr.1), alarmAfter (samplePins s), s.tk.wake, ?_⟩
      rw [endStep_tk, tickItems_tk, samplePins_tk]
      rfl
    · refine ⟨_, exec_timebaseTick_held hr hready, alarmAfter (samplePins s), s.tk.wake || alarmFired (samplePins s), ?_⟩
      rw [tickItems_false_eq, samplePins_tk]
  refine ⟨t, hexec, ?_⟩
  rw [htk]
  refine ⟨advance_sub hsub, rfl, ?_, ?_, advance_interval, rfl, rfl, rfl⟩
  · show (if atBoundary s.tk then _ else _) = _
    simp only [atBoundary_iff hsub]
  · show if s.tk.sub = 63 then OneSecondLater s.tk.cal (advance s.tk).cal else (advance s.tk).cal = s.tk.cal
    rw [advance_cal]
    split
    · next h63 => rw [if_pos ((atBoundary_iff hsub).2 h63)]; exact carrySecond_later hrange
    · next h63 => rw [if_neg (mt (atBoundary_iff hsub).1 h63)]

/-- Settles O43: only the battery domain's items take place, and the alarm goes to the wake flag. -/
theorem tickWhileHeldKeepsTheMainDomain : Obligations.TickWhileHeldKeepsTheMainDomain := by
  intro s hr hready hrange
  obtain ⟨-, -, -, -, -, -, -, -, -, hsub, -⟩ := id hrange
  refine ⟨_, exec_timebaseTick_held hr hready, ?_, ?_, ?_⟩
  · rw [ReadsPins, (tickItems_false_frame _).env, samplePins_env]
  · exact (samplePins_changes _ s).trans (tickItems_false_frame _).changesOnly
  · have hfired : alarmFired (samplePins s) = true ↔ AlarmFires s (tickItems false (samplePins s)) := by
      rw [show alarmFired (samplePins s) = alarmFired s by rw [samplePins_eq]; rfl]
      exact alarmFired_iff hsub (by rw [tickItems_false_eq, samplePins_tk])
    have harmed := alarmAfter_armed (samplePins s)
    rw [hfired, samplePins_tk] at harmed
    have hfields := alarmAfter_fields (samplePins s)
    rw [samplePins_tk] at hfields
    have hwake : (tickItems false (samplePins s)).tk.wake = (s.tk.wake || alarmFired (samplePins s)) := by
      rw [tickItems_false_eq, samplePins_tk]
    have halarm : (tickItems false (samplePins s)).tk.alarm = alarmAfter (samplePins s) := by rw [tickItems_false_eq]
    refine ⟨?_, ?_, ?_, ?_, ?_⟩
    · rw [tickItems_false_eq, samplePins_lv]
    · rw [tickItems_false_eq, samplePins_sup]
    · rw [hwake, Bool.or_eq_true, hfired]
    · rw [halarm]; exact harmed
    · rw [halarm]; exact hfields

/-! ### The tick of the running main domain -/

/-- A tick of the running main domain ends as a step and keeps to its parts. -/
theorem tick_ends {s : State} (hr : Runs s) : MainStep (tickItems true (samplePins s)).lv.latches
    [.records, .lost, .repetition, .calendar, .counters, .alarm, .batLow, .watchdog, .request, .stretch] s
    (endStep (tickItems true (samplePins s))) :=
  mainStep_of_latching_frame hr (tickItems_true_frame _) rfl

theorem repeatDue_of_armed {s : State} {phase : RepeatPhase} {p : Position} {r : QRecord} {n : Nat}
    (h : s.rep = .armed phase p r n) (hn : n ≤ 1) : repeatDue s = true := by
  unfold repeatDue
  rw [h]
  exact decide_eq_true hn

/-- The repeat and the queue after a tick are what item 6 makes of them. -/
theorem tick_queue (s : State) : (tickItems true s).rep = (repeatTick (tickClock s)).rep ∧
    (tickItems true s).tq = (repeatTick (tickClock s)).tq ∧
    (tickItems true s).lv.latches.getLsbD 2 = (repeatTick (tickClock s)).lv.latches.getLsbD 2 := by
  have hframe : Frame [.watchdog, .latches, .request, .stretch] (repeatTick (tickClock s)) (tickItems true s) :=
    (watchdogTick_frame _).trans (stretchTick_frame _)
  refine ⟨hframe.same .repetition (by decide), hframe.tq_eq, ?_⟩
  rw [tickItems_true, stretchTick_lv, watchdogTick_latch (by decide) (by decide)]

/-- The watchdog and the reset request after a tick are what item 7 makes of them. -/
theorem tick_watchdog (s : State) : (tickItems true s).wd = (watchdogTick (repeatTick (tickClock s))).wd ∧
    (tickItems true s).sup.request = (watchdogTick (repeatTick (tickClock s))).sup.request ∧
    (tickItems true s).lv.latches.getLsbD 13 = (watchdogTick (repeatTick (tickClock s))).lv.latches.getLsbD 13 := by
  have hframe := stretchTick_frame (watchdogTick (repeatTick (tickClock s)))
  exact ⟨hframe.same .watchdog (by decide), hframe.same .request (by decide), by rw [tickItems_true, stretchTick_lv]⟩

/-- What stands when item 6 begins: the queue, the repeat and the QUEUE-OVERFLOW latch as the tick found them. -/
theorem beforeRepeat (s : State) : (tickClock (samplePins s)).rep = s.rep ∧ (tickClock (samplePins s)).tq = s.tq ∧
    (tickClock (samplePins s)).cfg = s.cfg ∧
    (tickClock (samplePins s)).lv.latches.getLsbD 2 = s.lv.latches.getLsbD 2 := by
  have hframe := tickClock_frame (samplePins s)
  refine ⟨(hframe.same .repetition (by decide)).trans (samplePins_rep s), hframe.tq_eq.trans (samplePins_tq s),
    (hframe.same .config (by decide)).trans (samplePins_cfg s), ?_⟩
  rw [tickClock_latch _ 2 (by decide), samplePins_lv]
  simp

/-- What stands when item 7 begins: the watchdog, the request and the WATCHDOG latch as the tick found them. -/
theorem beforeWatchdog (s : State) : (repeatTick (tickClock (samplePins s))).wd = s.wd ∧
    (repeatTick (tickClock (samplePins s))).sup.request = s.sup.request ∧
    (repeatTick (tickClock (samplePins s))).lv.latches.getLsbD 13 = s.lv.latches.getLsbD 13 := by
  have hrepeat := repeatTick_frame (tickClock (samplePins s))
  have hclock := tickClock_frame (samplePins s)
  refine ⟨?_, ?_, ?_⟩
  · rw [hrepeat.same .watchdog (by decide), hclock.same .watchdog (by decide), samplePins_wd]
  · rw [hrepeat.same .request (by decide), hclock.same .request (by decide), samplePins_sup]
  · rw [repeatTick_latch (by decide) (by decide), tickClock_latch _ 13 (by decide), samplePins_lv]
    simp

/-- The end of a step leaves every latch but POWER-LOW. -/
theorem tick_latch {s : State} (hr : Runs s) (n : Nat) : (endStep (tickItems true (samplePins s))).lv.latches.getLsbD n =
    ((tickItems true (samplePins s)).lv.latches.getLsbD n || (decide (n = 12) && ((seenPins s).vddLow && !s.sup.pwrLow))) := by
  obtain ⟨⟨-, hlatches, -⟩, -⟩ := tick_ends hr
  rw [hlatches, withPowerLow_getLsbD]

/-- Settles O29: item 6 offers or skips the copy, and no other item touches the queue. -/
theorem repeatExpiryOffersOrSkips : Obligations.RepeatExpiryOffersOrSkips := by
  intro phase p r n s hr hn hrep hle
  have htick := exec_timebaseTick_running hr hn
  have hexec : exec .repeatExpiry s = exec .timebaseTick s :=
    congrArg Host.Outcome.next (if_pos (by rw [mainRunning_of_runs hr, repeatDue_of_armed hrep hle]; rfl))
  obtain ⟨hends, hchanges⟩ := tick_ends hr
  obtain ⟨hrep', hqueue, hlatch⟩ := tick_queue (samplePins s)
  obtain ⟨hbefore, htq, hcfg, hbit⟩ := beforeRepeat s
  generalize tickItems true (samplePins s) = u at *
  generalize tickClock (samplePins s) = v at *
  rw [repeatTick_expires (hbefore.trans hrep) hle] at hrep' hqueue hlatch
  have hlast : (endStep u).lv.latches.getLsbD 2 = (expireRepeat p r v).lv.latches.getLsbD 2 := by
    rw [hends.2.1, withPowerLow_getLsbD, hlatch]
    simp
  refine ⟨_, hexec.trans htick, htick, ?_, ⟨fun hskip => ?_, fun hskip hroom => ?_, fun hskip hfull => ?_⟩,
    endsStep_self hends, hchanges⟩
  · rw [endStep_rep, hrep', expireRepeat_rep, hcfg]
  · obtain ⟨hsame, hlv⟩ := expireRepeat_skips (p := p) (r := r) (s := v) (by rwa [hcfg, htq])
    exact ⟨by rw [endStep_tq, hqueue, hsame, htq], by rw [hlast, hlv, hbit]⟩
  · obtain ⟨hsame, hlv⟩ := expireRepeat_offers (p := p) (r := r) (s := v) (by rwa [hcfg, htq])
    rw [offer_of_room (by rwa [htq])] at hsame hlv
    exact ⟨by rw [endStep_tq, hqueue, hsame, ← htq]; rfl, by rw [hlast, hlv]; exact hbit⟩
  · obtain ⟨hsame, hlv⟩ := expireRepeat_offers (p := p) (r := r) (s := v) (by rwa [hcfg, htq])
    rw [offer_of_full (by rwa [htq])] at hsame hlv
    refine ⟨by rw [endStep_tq, hqueue, hsame, ← htq]; rfl, ?_⟩
    rw [hlast, hlv, discardRecord, setLatch_latch _ _ 2 (by decide)]
    simp [latchNumber]

/-- Settles O49: item 7 warns at the first expiry and requests the reset at the second. -/
theorem watchdogExpiriesWarnAndReset : Obligations.WatchdogExpiriesWarnAndReset := by
  intro s hr hn hcount
  have htick := exec_timebaseTick_running hr hn
  obtain ⟨hends, hchanges⟩ := tick_ends hr
  obtain ⟨hwd, hrequest, hlatch⟩ := tick_watchdog (samplePins s)
  obtain ⟨hbefore, hnone, -⟩ := beforeWatchdog s
  have hdue (h : s.wd.state ≠ .disabled) : watchdogDue s.wd = true := (watchdogDue_iff h).2 hcount
  generalize tickItems true (samplePins s) = u at *
  generalize repeatTick (tickClock (samplePins s)) = v at *
  refine ⟨fun harmed => ?_, fun hwarned => ?_⟩
  · have hdue := hdue (by simp [harmed])
    have hexec : exec .firstExpiry s = exec .timebaseTick s :=
      congrArg Host.Outcome.next (if_pos (by rw [mainRunning_of_runs hr, hdue, harmed]; rfl))
    rw [watchdogTick_first (by rwa [hbefore]) (by rwa [hbefore])] at hwd hrequest hlatch
    refine ⟨_, hexec.trans htick, htick, ?_, ?_, ?_, endsStep_self hends, hchanges⟩
    · rw [endStep_wd, hwd, ← hbefore]
      rfl
    · rw [hends.2.1, withPowerLow_getLsbD, hlatch, setLatch_latch _ _ 13 (by decide)]
      simp [latchNumber]
    · rw [endStep_request, hrequest, ← hr.2.2.1, ← hnone]
      rfl
  · have hdue := hdue (by simp [hwarned])
    have hexec : exec .secondExpiry s = exec .timebaseTick s :=
      congrArg Host.Outcome.next (if_pos (by rw [mainRunning_of_runs hr, hdue, hwarned]; rfl))
    rw [watchdogTick_second (by rwa [hbefore]) (by rwa [hbefore])] at hwd hrequest hlatch
    refine ⟨_, hexec.trans htick, htick, ?_, ?_, endsStep_self hends, hchanges⟩
    · rw [endStep_wd, hwd, ← hbefore]
      rfl
    · rw [endStep_request, hrequest]
      show some (mergeWith v.sup.request .watchdog) = _
      rw [hnone, hr.2.2.1]
      rfl

theorem alarmFired_samplePins (s : State) : alarmFired (samplePins s) = alarmFired s := by
  unfold alarmFired
  rw [samplePins_tk]

/-- The latches after a tick, QUEUE-OVERFLOW and WATCHDOG apart. -/
theorem tick_bit {s : State} (hr : Runs s) {n : Nat} (hn : n < 16) (h2 : n ≠ 2) (h13 : n ≠ 13) :
    (endStep (tickItems true (samplePins s))).lv.latches.getLsbD n = (s.lv.latches.getLsbD n ||
      (decide (n = 8) && atMidnight s.tk) || (decide (n = 6) && alarmFired s) ||
      (decide (n = 7) && tickChosen s.cfg.tickRate (advance s.tk).sub) ||
      (decide (n = 12) && ((seenPins s).vddLow && !s.sup.pwrLow))) := by
  rw [tick_latch hr, tickItems_latch hn h2 h13, tickClock_latch _ n hn, alarmFired_samplePins, samplePins_lv, samplePins_tk,
    samplePins_cfg]

/-- QUEUE-OVERFLOW and WATCHDOG are what items 6 and 7 leave. -/
theorem tick_bit_items {s : State} (hr : Runs s) {n : Nat} (hn : n = 2 ∨ n = 13) :
    (endStep (tickItems true (samplePins s))).lv.latches.getLsbD n = (tickItems true (samplePins s)).lv.latches.getLsbD n := by
  rw [tick_latch hr]
  rcases hn with rfl | rfl <;> simp

theorem tick_batLow {s : State} (hsub : s.tk.sub < 64) : (tickItems true (samplePins s)).sup.batLow =
    if s.tk.sub = 63 ∧ (advance s.tk).cal.second = 0 then batterySeenLow s else s.sup.batLow := by
  have hclock : (tickItems true (samplePins s)).sup.batLow = batLowAfter (samplePins s) := by
    rw [(tickItems_afterClock _).same .batLow (by decide), tickClock_eq]
  rw [hclock, batLowAfter, samplePins_tk, samplePins_sup, samplePins_env]
  simp only [Bool.and_eq_true, beq_iff_eq, atBoundary_iff hsub]
  rfl

theorem tick_stretchTicks (s : State) : (tickItems true (samplePins s)).sup.stretchTicks =
    if s.sup.phase = .stretch then s.sup.stretchTicks + 1 else s.sup.stretchTicks := by
  have hframe : Frame [.calendar, .counters, .alarm, .latches, .batLow, .records, .lost, .repetition, .watchdog, .request]
      (samplePins s) (watchdogTick (repeatTick (tickClock (samplePins s)))) :=
    (tickClock_frame _).trans ((repeatTick_frame _).trans (watchdogTick_frame _)
      (rs := [.records, .lost, .latches, .repetition, .watchdog, .request]))
  obtain ⟨-, hphase, -⟩ := hframe.same .power (by decide)
  obtain ⟨hticks, -⟩ := hframe.same .stretch (by decide)
  rw [tickItems_true, stretchTick_sup, hphase, hticks, samplePins_sup]

/-- Items 6 and 7 of a tick that reaches neither of their ends. -/
theorem tick_idle_repeat {s : State} (h : s.rep = .idle) : (tickItems true (samplePins s)).rep = .idle ∧
    (tickItems true (samplePins s)).tq = s.tq ∧
    (tickItems true (samplePins s)).lv.latches.getLsbD 2 = s.lv.latches.getLsbD 2 := by
  obtain ⟨hrep', hqueue, hlatch⟩ := tick_queue (samplePins s)
  obtain ⟨hrep, htq, -, hbit⟩ := beforeRepeat s
  rw [repeatTick_idle (hrep.trans h)] at hrep' hqueue hlatch
  exact ⟨hrep'.trans (hrep.trans h), hqueue.trans htq, hlatch.trans hbit⟩

theorem tick_counting_repeat {s : State} {phase : RepeatPhase} {p : Position} {r : QRecord} {n : Nat}
    (h : s.rep = .armed phase p r (n + 2)) : (tickItems true (samplePins s)).rep = .armed phase p r (n + 1) ∧
    (tickItems true (samplePins s)).tq = s.tq ∧
    (tickItems true (samplePins s)).lv.latches.getLsbD 2 = s.lv.latches.getLsbD 2 := by
  obtain ⟨hrep', hqueue, hlatch⟩ := tick_queue (samplePins s)
  obtain ⟨hrep, htq, -, hbit⟩ := beforeRepeat s
  rw [repeatTick_counts (hrep.trans h)] at hrep' hqueue hlatch
  exact ⟨hrep', hqueue.trans htq, hlatch.trans hbit⟩

theorem tick_disabled_watchdog {s : State} (h : s.wd.state = .disabled) : (tickItems true (samplePins s)).wd = s.wd ∧
    (tickItems true (samplePins s)).sup.request = s.sup.request ∧
    (tickItems true (samplePins s)).lv.latches.getLsbD 13 = s.lv.latches.getLsbD 13 := by
  obtain ⟨hwd', hrequest', hlatch⟩ := tick_watchdog (samplePins s)
  obtain ⟨hwd, hrequest, hbit⟩ := beforeWatchdog s
  rw [watchdogTick_disabled (by rwa [hwd])] at hwd' hrequest' hlatch
  exact ⟨hwd'.trans hwd, hrequest'.trans hrequest, hlatch.trans hbit⟩

theorem tick_counting_watchdog {s : State} (h : s.wd.state ≠ .disabled)
    (hcount : s.wd.count + 1 < 32 * 2 ^ s.wd.active.toNat) :
    (tickItems true (samplePins s)).wd = { s.wd with count := s.wd.count + 1 } ∧
    (tickItems true (samplePins s)).sup.request = s.sup.request ∧
    (tickItems true (samplePins s)).lv.latches.getLsbD 13 = s.lv.latches.getLsbD 13 := by
  obtain ⟨hwd', hrequest', hlatch⟩ := tick_watchdog (samplePins s)
  obtain ⟨hwd, hrequest, hbit⟩ := beforeWatchdog s
  rw [watchdogTick_counts (by rwa [hwd]) (by rwa [hwd])] at hwd' hrequest' hlatch
  exact ⟨hwd'.trans (by rw [hwd]), hrequest'.trans hrequest, hlatch.trans hbit⟩

/-- Settles O42: items 1 to 5 latch their events, items 6 and 7 count, and the stretch counts the tick. -/
theorem tickWhileRunningLatchesItsEvents : Obligations.TickWhileRunningLatchesItsEvents := by
  intro s hr hn hrange hrate
  obtain ⟨-, -, -, -, -, -, -, -, -, hsub, -⟩ := id hrange
  obtain ⟨hends, hchanges⟩ := tick_ends hr
  have htk : (endStep (tickItems true (samplePins s))).tk = { advance s.tk with alarm := alarmAfter (samplePins s) } := by
    rw [endStep_tk, tickItems_tk, samplePins_tk]
  have hfired : alarmFired s = true ↔ AlarmFires s (endStep (tickItems true (samplePins s))) :=
    alarmFired_iff hsub (by rw [htk])
  have harmed := alarmAfter_armed (samplePins s)
  have hfields := alarmAfter_fields (samplePins s)
  rw [samplePins_tk] at harmed hfields
  have hoverflow := tick_bit_items hr (.inl rfl)
  have hwatchdog := tick_bit_items hr (.inr rfl)
  refine ⟨_, exec_timebaseTick_running hr hn, endsStep_self hends, hchanges, ?_, ?_, ?_, fun n hmem => ?_, ?_, ?_, ?_, ?_,
    fun hidle => ?_, fun phase p r n harm => ?_, fun hoff => ?_, fun hon hcount => ?_, ?_⟩
  · rw [tick_bit hr (by decide) (by decide) (by decide), ← atMidnight_iff hrange]
    simp
  · rw [tick_bit hr (by decide) (by decide) (by decide), ← hfired]
    simp
  · rw [tick_bit hr (by decide) (by decide) (by decide), ← tickChosen_iff hrate (by rw [htk])]
    simp
  · have hn : n < 16 ∧ n ≠ 2 ∧ n ≠ 13 ∧ n ≠ 8 ∧ n ≠ 6 ∧ n ≠ 7 ∧ n ≠ 12 := by
      simp only [List.mem_cons, List.not_mem_nil, or_false] at hmem
      omega
    obtain ⟨hlt, h2, h13, h8, h6, h7, h12⟩ := hn
    rw [tick_bit hr hlt h2 h13]
    simp [h8, h6, h7, h12]
  · rw [tick_bit hr (by decide) (by decide) (by decide)]
    simp
  · rw [htk, ← hfired, ← alarmFired_samplePins]
    exact harmed
  · rw [htk]
    exact hfields
  · rw [endStep_batLow, tick_batLow hsub, htk]
  · obtain ⟨hrep, htq, hbit⟩ := tick_idle_repeat hidle
    exact ⟨by rw [endStep_rep, hrep], by rw [endStep_tq, htq], hoverflow.trans hbit⟩
  · obtain ⟨hrep, htq, hbit⟩ := tick_counting_repeat harm
    exact ⟨by rw [endStep_rep, hrep], by rw [endStep_tq, htq], hoverflow.trans hbit⟩
  · obtain ⟨hwd, hrequest, hbit⟩ := tick_disabled_watchdog hoff
    exact ⟨by rw [endStep_wd, hwd], by rw [endStep_request, hrequest, hr.2.2.1], hwatchdog.trans hbit⟩
  · obtain ⟨hwd, hrequest, hbit⟩ := tick_counting_watchdog hon hcount
    exact ⟨by rw [endStep_wd, hwd], by rw [endStep_request, hrequest, hr.2.2.1], hwatchdog.trans hbit⟩
  · rw [(endStep_changes _).2 .stretch (by decide) |>.1, tick_stretchTicks]

end Sys2Proof.Machine
end

section
-- One lemma at a time: elaborated side by side they ask for more threads than the memory limit of the check leaves.
set_option Elab.async false
/-!
PROOF. The identify engine's selection step and chain cycle, and the capture of the faults of one step (R115 to R125, R130
to R132).
-/

namespace Sys2Proof.Machine

/-! ### Selection (R115) -/

theorem isCandidate_iff (s : State) (l : Level) (n : Fin 15) : isCandidate s l n = true ↔ Behind s l n.val := by
  unfold isCandidate Behind
  rw [Bool.and_eq_true, and_congr_right_iff]
  intro _
  have hl : l = 15 ↔ l.val = 15 := Fin.ext_iff
  by_cases h15 : l.val = 15
  · rw [if_pos (hl.2 h15), if_pos h15, decide_eq_true_iff]
    omega
  · rw [if_neg (mt hl.1 h15), if_neg h15]
    by_cases hn : n.val < 13
    · have hroute : s.lv.routes[n.val]? = some s.lv.routes[n.val] := Vector.getElem?_eq_getElem hn
      have hget : s.lv.routes.getD n.val 15 = s.lv.routes[n.val] := by simp [Vector.getD, hn]
      rw [hroute, hget]
      simp only [beq_iff_eq]
      omega
    · have hroute : s.lv.routes[n.val]? = none := by simp; omega
      rw [hroute]
      simp
      omega

theorem selectSource_of_selected {s : State} {l : Level} {n : Nat} (h : Selected s l n) :
    ∃ k : Fin 15, k.val = n ∧ selectSource s l = some k := by
  obtain ⟨hn, hbehind, hfirst⟩ := h
  refine ⟨⟨n, by omega⟩, rfl, ?_⟩
  rw [selectSource, List.find?_eq_some_iff_getElem]
  refine ⟨(isCandidate_iff _ _ _).2 hbehind, n, by simp; omega, by simp, fun j hj => ?_⟩
  rw [Bool.not_eq_true', ← Bool.not_eq_true, List.getElem_finRange, isCandidate_iff]
  exact hfirst j hj

theorem selectSource_of_none {s : State} {l : Level} (h : ∀ n, n ≤ 14 → ¬ Behind s l n) : selectSource s l = none := by
  rw [selectSource, List.find?_eq_none]
  intro n _ hn
  exact h n.val (by omega) ((isCandidate_iff s l n).1 hn)

theorem selectSource_samplePins (s : State) (l : Level) : selectSource (samplePins s) l = selectSource s l := by
  rw [samplePins_eq]
  rfl

/-- A selection that waits is taken. -/
theorem exec_selectionStep_of_waits {s : State} {l : Level} (h : SelectionWaits s l) :
    exec .selectionStep s = .next (endStep (selectionBody (samplePins s))) := by
  obtain ⟨hr, hrun, hcycle, -⟩ := h
  exact congrArg Host.Outcome.next (if_pos ((selectionReady_iff s).2 ⟨hr, hrun, hcycle⟩))

theorem selectionBody_some {s : State} {l : Level} {k : Fin 15} (hl : s.id.level = some l) (hk : selectSource s l = some k)
    (h9 : k.val ≠ 9) (h10 : k.val ≠ 10) : selectionBody s = internalResult k.val s := by
  unfold selectionBody
  simp only [hl, Option.getD_some, hk, if_neg h9, if_neg h10]

theorem selectionBody_chain {s : State} {l : Level} {k : Fin 15} {c : ChainClass} (hl : s.id.level = some l)
    (hk : selectSource s l = some k) (hc : k.val = (chainCodes c).1.toNat) : selectionBody s = startCycle c s := by
  unfold selectionBody
  simp only [hl, Option.getD_some, hk, hc]
  cases c <;> rfl

theorem selectionBody_none {s : State} {l : Level} (hl : s.id.level = some l) (hk : selectSource s l = none) :
    selectionBody s = emptyResult l s := by
  unfold selectionBody
  simp only [hl, Option.getD_some, hk]

/-! ### Results (R116 to R118, R121) -/

theorem identifyCode_eq {s : State} {n : Nat} (hn : n ≤ 14) (h9 : n ≠ 9) (h10 : n ≠ 10) : identifyCode s n = codeOf s n := by
  have hbit (b : Bool) : bitAt 0 b = if b then 1 else 0 := by cases b <;> rfl
  obtain rfl | rfl | rfl | rfl | rfl | rfl | rfl | rfl | rfl | rfl | rfl | rfl | rfl : n = 0 ∨ n = 1 ∨ n = 2 ∨ n = 3 ∨ n = 4 ∨
      n = 5 ∨ n = 6 ∨ n = 7 ∨ n = 8 ∨ n = 11 ∨ n = 12 ∨ n = 13 ∨ n = 14 := by omega
  all_goals simp [identifyCode, codeOf, hbit, queueCount]

theorem identifyCode_samplePins (s : State) (n : Nat) : identifyCode (samplePins s) n = identifyCode s n := by
  rw [samplePins_eq]
  rfl

theorem internalResult_latches (n : Nat) (s : State) :
    (internalResult n s).lv.latches = s.lv.latches &&& ~~~((1#16 <<< n) &&& 0x39FC#16) := by
  unfold internalResult
  dsimp only
  split <;> rfl

theorem internalResult_id (n : Nat) (s : State) : (internalResult n s).id =
    { s.id with state := .done, level := none, source := byteOf n, code := identifyCode s n } := by
  unfold internalResult
  dsimp only
  split <;> rfl

theorem internalResult_wake (n : Nat) (s : State) : (internalResult n s).tk.wake = (s.tk.wake && decide (n ≠ 6)) := by
  unfold internalResult
  dsimp only
  split
  · next h => simp [h, postResult, clearWake]
  · next h => simp [h, postResult]

theorem startCycle_busy {s : State} (c : ChainClass) (h : s.env.pins.chdLow = true) : startCycle c s =
    capture ⟨.chainData, .identify, (chainCodes c).2, 0⟩ (postResult (chainCodes c).1 0xFF s) := by
  cases c <;> exact if_pos h

theorem startCycle_free {s : State} (c : ChainClass) (h : s.env.pins.chdLow = false) : startCycle c s =
    { s with id := { s.id with cycle := some { cls := c, phase := .presence, time := 0, bits := 0 }, idg := true,
                               chs := decide (c = .b) } } := by
  cases c <;> exact if_neg (by simp [h])

/-- The selection step takes what stage R115 selects in the state at its start. -/
theorem selectionBody_of_waits {s : State} {l : Level} (h : SelectionWaits s l) :
    (samplePins s).id.level = some l ∧ (samplePins s).id = s.id ∧ (samplePins s).fault = s.fault ∧
      (samplePins s).env.pins = seenPins s :=
  ⟨by rw [samplePins_id]; exact h.2.2.2, samplePins_id s, samplePins_fault s, by rw [samplePins_env]⟩

/-- Settles O35, in the cases of R116, R118 and R121. -/
theorem selectionStepPostsOrStartsACycle : Obligations.SelectionStepPostsOrStartsACycle := by
  refine ⟨fun l n s hwaits hselected h9 h10 => ?_, fun l s hwaits hnone => ⟨fun hsoft => ?_, fun hsoft => ?_⟩,
    fun l c s hwaits hselected => ⟨fun hbusy => ?_, fun hfree => ?_⟩⟩
  · obtain ⟨hl, hid, -, -⟩ := selectionBody_of_waits hwaits
    obtain ⟨k, rfl, hk⟩ := selectSource_of_selected hselected
    refine ⟨_, exec_selectionStep_of_waits hwaits, ?_⟩
    rw [selectionBody_some hl ((selectSource_samplePins s l).trans hk) h9 h10]
    refine ⟨mainStep_of_latching_frame hwaits.1 (internalResult_frame _ _).mono ?_, ?_, ?_⟩
    · rw [internalResult_latches, samplePins_lv]
    · rw [endStep_id, internalResult_id, hid, identifyCode_samplePins, identifyCode_eq hselected.1 h9 h10]
    · rw [endStep_tk, internalResult_wake, samplePins_tk]
  · obtain ⟨hl, hid, -, -⟩ := selectionBody_of_waits hwaits
    have hk := (selectSource_samplePins s l).trans (selectSource_of_none hnone)
    refine ⟨_, exec_selectionStep_of_waits hwaits, ?_⟩
    rw [selectionBody_none hl hk, emptyResult, if_pos (by rwa [samplePins_lv])]
    exact ⟨quietStep_of_frame hwaits.1 (postResult_frame _ _ _), by rw [endStep_id, postResult, hid]⟩
  · obtain ⟨hl, hid, hfault, -⟩ := selectionBody_of_waits hwaits
    have hk := (selectSource_samplePins s l).trans (selectSource_of_none hnone)
    refine ⟨_, exec_selectionStep_of_waits hwaits, ?_⟩
    rw [selectionBody_none hl hk, emptyResult, if_neg (by rw [samplePins_lv, hsoft]; decide)]
    refine ⟨quietStep_of_frame hwaits.1 ((postResult_frame _ _ _).trans (capture_frame _ _)), ?_, ?_⟩
    · rw [endStep_id, ← hid]
      rfl
    · simp [capture, captureAll, postResult, identifyFault]
  · obtain ⟨hl, hid, hfault, hpins⟩ := selectionBody_of_waits hwaits
    obtain ⟨k, hn, hk⟩ := selectSource_of_selected hselected
    refine ⟨_, exec_selectionStep_of_waits hwaits, ?_⟩
    rw [selectionBody_chain hl ((selectSource_samplePins s l).trans hk) hn, startCycle_busy c (by rwa [hpins])]
    refine ⟨quietStep_of_frame hwaits.1 ((postResult_frame _ _ _).trans (capture_frame _ _)), ?_, ?_⟩
    · rw [endStep_id, ← hid]
      rfl
    · simp [capture, captureAll, postResult]
  · obtain ⟨hl, hid, -, hpins⟩ := selectionBody_of_waits hwaits
    obtain ⟨k, hn, hk⟩ := selectSource_of_selected hselected
    refine ⟨_, exec_selectionStep_of_waits hwaits, ?_⟩
    rw [selectionBody_chain hl ((selectSource_samplePins s l).trans hk) hn, startCycle_free c (by rwa [hpins])]
    exact ⟨quietStep_of_frame hwaits.1 (setIdentify_frame _ _), by rw [endStep_id, hid]⟩

/-! ### The chain cycle (R122 to R125) -/

theorem chainEvent_of_cycleIn {s : State} {c : ChainCycle} {phase : ChainPhase} {act : ChainCycle → State → State}
    (h : CycleIn s c phase) : chainEvent phase act s = act c s := by
  obtain ⟨hr, hrun, hcycle, hphase⟩ := h
  unfold chainEvent
  rw [runningCycle_iff.2 ⟨hr, hrun, hcycle, rfl⟩]
  exact if_pos hphase

theorem exec_chainCycleCompletion_of_settling {s : State} {c : ChainCycle} {o : ChainOutcome} (h : CycleIn s c (.settling o)) :
    exec .chainCycleCompletion s = .next (endStep (completionBody c o (samplePins s))) := by
  obtain ⟨hr, hrun, hcycle, hphase⟩ := h
  simp only [exec, execChainCycleCompletion, runningCycle_iff.2 ⟨hr, hrun, hcycle, rfl⟩, hphase]
  rfl

/-- The received bits pass the check of R125. -/
theorem codeGood_iff (bits : BitVec 9) : codeGood bits = true ↔
    ((List.range 9).countP (fun i => bits.getLsbD i)) % 2 = 1 ∧ 1 ≤ (bits.extractLsb' 1 8).toNat ∧
      (bits.extractLsb' 1 8).toNat ≤ 0xFE := by
  have hlt := (bits.extractLsb' 1 8).isLt
  simp only [codeGood, oddOnes, receivedCode, Bool.and_eq_true, beq_iff_eq, bne_iff_ne, ne_eq, BitVec.toNat_eq, and_assoc]
  generalize (bits.extractLsb' 1 8).toNat = code at hlt ⊢
  have hzero : (0 : Byte).toNat = 0 := rfl
  have hmax : (0xFF : Byte).toNat = 255 := rfl
  rw [hzero, hmax]
  omega

theorem completionBody_id (c : ChainCycle) (o : ChainOutcome) (s : State) : (completionBody c o s).id =
    { s.id with state := .done, level := none, cycle := none, source := (chainCodes c.cls).1,
                code := (cycleResult c.cls (s.id.level.getD 0) o).1 } := by
  cases hc : c.cls <;> simp [completionBody, hc, postResult, chainSource, chainCodes]

theorem completionBody_fault (c : ChainCycle) (o : ChainOutcome) (s : State) : (completionBody c o s).fault =
    captureInto s.fault (cycleResult c.cls (s.id.level.getD 0) o).2.toList := rfl

/-- Settles O36: the events move the cycle, and the completion posts its result. -/
theorem chainCycleRunsToItsResult : Obligations.ChainCycleRunsToItsResult := by
  refine ⟨fun s c => ⟨fun h => ⟨?_, ?_⟩, fun h => ⟨?_, ?_⟩, fun h bits => ?_⟩, fun l c o s h hl => ?_⟩
  · exact congrArg Host.Outcome.next (chainEvent_of_cycleIn h)
  · exact congrArg Host.Outcome.next (chainEvent_of_cycleIn h)
  · exact congrArg Host.Outcome.next (chainEvent_of_cycleIn h)
  · exact congrArg Host.Outcome.next (chainEvent_of_cycleIn h)
  · exact congrArg Host.Outcome.next (chainEvent_of_cycleIn h)
  · have hid : (endStep (completionBody c o (samplePins s))).id = { s.id with
        state := .done, level := none, cycle := none, source := (chainCodes c.cls).1, code := (cycleResult c.cls l o).1 } := by
      rw [endStep_id, completionBody_id, samplePins_id, hl, Option.getD_some]
    have hfault : (endStep (completionBody c o (samplePins s))).fault = captureInto s.fault (cycleResult c.cls l o).2.toList := by
      rw [endStep_fault, completionBody_fault, samplePins_id, samplePins_fault, hl, Option.getD_some]
    refine ⟨_, exec_chainCycleCompletion_of_settling h, quietStep_of_frame h.1 (completionBody_frame _ _ _), ?_, ?_⟩
    · rw [hid]
    · generalize endStep (completionBody c o (samplePins s)) = t at hid hfault
      have hclass : chainClassByte c.cls = (chainCodes c.cls).2 := by cases c.cls <;> rfl
      cases o with
      | timeout =>
        refine ⟨by rw [hid]; rfl, ?_⟩
        rw [hfault, ← hclass]
        exact captureInto_single _ _
      | stuck =>
        refine ⟨by rw [hid]; rfl, ?_⟩
        rw [hfault, ← hclass]
        exact captureInto_single _ _
      | shifted bits =>
        simp only [← codeGood_iff]
        split
        · next hgood =>
          have hresult : cycleResult c.cls l (.shifted bits) = (receivedCode bits, none) := if_pos hgood
          rw [hresult] at hid hfault
          exact ⟨by rw [hid]; rfl, hfault⟩
        · next hbad =>
          have hresult : cycleResult c.cls l (.shifted bits) =
              (0xFF, some (identifyFault .chainData (chainClassByte c.cls) (receivedCode bits))) := if_neg hbad
          rw [hresult] at hid hfault
          refine ⟨by rw [hid], ?_⟩
          rw [hfault, ← hclass]
          exact captureInto_single _ _

/-! ### Fault capture (R130 to R132) -/

/-- The first of the lowest cause codes is the one captured (R132). -/
theorem firstFault_of_ge {best : FaultReport} {fs : List FaultReport}
    (h : ∀ g ∈ fs, causeCode (some best.cause) ≤ causeCode (some g.cause)) : firstFault best fs = best := by
  induction fs with
  | nil => rfl
  | cons g rest ih =>
    have hg : ¬ causeCode (some g.cause) < causeCode (some best.cause) := by
      have := h g (by simp)
      simpa using this
    rw [firstFault, if_neg hg]
    exact ih fun x hx => h x (List.mem_cons_of_mem _ hx)

theorem firstFault_append {best f : FaultReport} {before after : List FaultReport}
    (hbest : causeCode (some f.cause) < causeCode (some best.cause))
    (hbefore : ∀ g ∈ before, causeCode (some f.cause) < causeCode (some g.cause))
    (hafter : ∀ g ∈ after, causeCode (some f.cause) ≤ causeCode (some g.cause)) :
    firstFault best (before ++ f :: after) = f := by
  induction before generalizing best with
  | nil =>
    show firstFault (if _ then _ else _) after = f
    rw [if_pos hbest]
    exact firstFault_of_ge hafter
  | cons g rest ih =>
    show firstFault (if _ then g else best) (rest ++ f :: after) = f
    refine ih ?_ fun x hx => hbefore x (List.mem_cons_of_mem _ hx)
    split
    · exact hbefore g (by simp)
    · exact hbest

/-- An unlocked record takes one fault and counts the others (R132). -/
theorem captureInto_free {r : FaultRecord} (h : r.locked = false) (f : FaultReport) (rest : List FaultReport) :
    captureInto r (f :: rest) = { cause := some (firstFault f rest).cause, origin := some (firstFault f rest).origin,
                                  detailA := (firstFault f rest).detailA, detailB := (firstFault f rest).detailB,
                                  lost := min 15 rest.length, locked := true } :=
  if_neg (by simp [h])

/-- Settles O37: a locked record only counts, and an unlocked one takes the first of the lowest cause codes. -/
theorem oneStepsFaultsAreCapturedTogether : Obligations.OneStepsFaultsAreCapturedTogether := by
  refine ⟨fun r faults hlocked hlost => ?_, fun r before after f hfree hbefore hafter => ?_⟩
  · cases faults with
    | nil =>
      have hmin : min 15 (r.lost + 0) = r.lost := by omega
      exact (congrArg (fun n => ({ r with lost := n } : FaultRecord)) hmin).symm
    | cons f rest => exact if_pos hlocked
  · cases before with
    | nil =>
      rw [List.nil_append, captureInto_free hfree, firstFault_of_ge hafter, List.length_nil, Nat.zero_add]
    | cons g rest =>
      have hfirst := firstFault_append (hbefore g (by simp)) (fun x hx => hbefore x (List.mem_cons_of_mem _ hx)) hafter
      have hlength : (rest ++ f :: after).length = (g :: rest).length + after.length := by simp; omega
      rw [List.cons_append, captureInto_free hfree, hfirst, hlength]

end Sys2Proof.Machine
end

section
-- One lemma at a time: elaborated side by side they ask for more threads than the memory limit of the check leaves.
set_option Elab.async false
/-!
PROOF. The halt detector's events (R153 to R155).
-/

namespace Sys2Proof.Machine

/-- Outside part 1 the detection becomes ready (R153). -/
theorem enterHalted_running {s : State} (h : s.sup.phase ≠ .held) : enterHalted s = { s with
    scan := { s.scan with ready := false }, sup := { s.sup with detector := .halted, haltReady := true } } := if_neg h

/-- In part 1 it is the finding of the oscillator check (R155). -/
theorem enterHalted_held {s : State} (h : s.sup.phase = .held) : enterHalted s = { s with
    scan := { s.scan with ready := false }
    sup := { s.sup with detector := .halted, oscHalt := some (byteOf s.tk.cal.second, byteOf s.tk.sub) } } := if_pos h

theorem detectHalt_stays {s : State} (h : (s.sup.haltReady = true ∧ s.sup.phase ≠ .held) ∨ s.sup.detector = .halted) :
    detectHalt s = s := if_pos (by simpa using h)

theorem detectHalt_enters {s : State} (hready : s.sup.haltReady = false ∨ s.sup.phase = .held) (hn : NotHalted s) :
    detectHalt s = enterHalted s := by
  refine if_neg ?_
  have hdetector : s.sup.detector ≠ .halted := hn
  rcases hready with h | h <;> simp [h, hdetector]

/-- A detection that is due is taken, unless a reset request waits before it (R7). -/
theorem exec_haltDetection_takes {s : State} (hpower : s.sup.power = .mainOn) (hcut : s.sup.cutShort = false)
    (hdue : haltDue (detectHalt s) = true) (hrequest : s.sup.request = none) :
    exec .haltDetection s = .next (endStep (haltBody (samplePins (detectHalt s)))) := by
  show Host.Outcome.next (if _ then _ else _) = _
  rw [if_pos ⟨hpower, hcut⟩, if_pos (by simp [hdue, hrequest])]
  rfl

theorem exec_haltDetection_records {s : State} (hpower : s.sup.power = .mainOn) (hcut : s.sup.cutShort = false)
    (hnot : haltDue (detectHalt s) = false ∨ s.sup.request ≠ none) : exec .haltDetection s = .next (detectHalt s) := by
  show Host.Outcome.next (if _ then _ else _) = _
  rw [if_pos ⟨hpower, hcut⟩, if_neg ?_]
  rcases hnot with h | h <;> simp [h]

theorem haltBody_fields (s : State) : (haltBody s).scan = s.scan ∧
    (haltBody s).sup = { s.sup with haltReady := false } ∧ (haltBody s).tk.timeSet = false ∧
    (haltBody s).tk.dateSet = false ∧
    (haltBody s).fault = recordAfter ⟨.clockHalt, .timekeeper, byteOf s.tk.cal.second, byteOf s.tk.sub⟩ s.fault :=
  ⟨rfl, rfl, rfl, rfl, captureInto_single _ _⟩

/-- A halt that is found while the main domain runs, in the state that samples it. -/
theorem samplePins_enterHalted {s : State} (h : s.sup.phase ≠ .held) : samplePins (enterHalted s) = enterHalted (samplePins s) := by
  rw [enterHalted_running (s := samplePins s) (by rwa [samplePins_sup]), enterHalted_running h, samplePins_eq s, samplePins_eq]
  rfl

theorem haltDue_enterHalted {s : State} (hpower : s.sup.power = .mainOn) (hphase : s.sup.phase ≠ .held)
    (hcut : s.sup.cutShort = false) : haltDue (enterHalted s) = true := by
  rw [enterHalted_running hphase]
  exact (haltDue_iff _).2 ⟨hpower, hphase, hcut, rfl⟩

/-- The detection that is taken while the main domain runs: the one that is ready, or one found now (R153, R154). -/
theorem exec_haltDetection_running {s : State} (hr : Runs s) (h : NotHalted s ∨ s.sup.haltReady = true) :
    ∃ v, exec .haltDetection s = .next (endStep (haltBody v)) ∧ Frame [.scanTimer, .halt] (samplePins s) v ∧
      (s.sup.haltReady = true → v = samplePins s) ∧ (s.sup.haltReady = false → v = enterHalted (samplePins s)) := by
  obtain ⟨hpower, hphase, hrequest, hcut⟩ := hr
  by_cases hready : s.sup.haltReady = true
  · have hsame : detectHalt s = s := detectHalt_stays (.inl ⟨hready, hphase⟩)
    have hdue : haltDue (detectHalt s) = true := hsame.symm ▸ (haltDue_iff s).2 ⟨hpower, hphase, hcut, hready⟩
    have hexec := exec_haltDetection_takes hpower hcut hdue hrequest
    rw [hsame] at hexec
    exact ⟨_, hexec, Frame.refl _ _, fun _ => rfl, fun hnot => by simp [hready] at hnot⟩
  · have hfound : detectHalt s = enterHalted s := detectHalt_enters (.inl (by simpa using hready)) (h.resolve_right hready)
    have hexec := exec_haltDetection_takes hpower hcut (hfound.symm ▸ haltDue_enterHalted hpower hphase hcut) hrequest
    rw [hfound, samplePins_enterHalted hphase] at hexec
    exact ⟨_, hexec, enterHalted_frame _, fun hyes => absurd hyes hready, fun _ => rfl⟩

/-- Settles O44, by whether the detection is ready, found or only recorded. -/
theorem haltDetectionReportsAndResumes : Obligations.HaltDetectionReportsAndResumes := by
  refine ⟨fun s hr hdetects => ?_, fun s hpower hphase hcut hrequest => ?_, fun s hpower hphase hn hcut => ?_,
    fun s hstays => ?_, fun s hpower => congrArg Host.Outcome.next (if_pos hpower)⟩
  · obtain ⟨v, hexec, hframe, hready, hfound⟩ := exec_haltDetection_running hr hdetects
    obtain ⟨hscan, hsup, htime, hdate, hfault⟩ := haltBody_fields v
    have hphase : (samplePins s).sup.phase ≠ .held := by rw [samplePins_sup]; exact hr.2.1
    have hosc : v.sup.oscSeen = s.sup.oscSeen ∧ v.sup.oscHalt = s.sup.oscHalt := by
      by_cases h : s.sup.haltReady = true
      · rw [hready h, samplePins_sup]
        exact ⟨rfl, rfl⟩
      · rw [hfound (by simpa using h), enterHalted_running hphase, samplePins_sup]
        exact ⟨rfl, rfl⟩
    have hends : Frame [.halt, .setFlags, .fault, .scanTimer] (samplePins s) (haltBody v) :=
      hframe.trans (haltBody_frame v)
    obtain ⟨hdetector, hseen, hhalt, hflag⟩ := (endStep_changes (haltBody v)).2 .halt (by decide)
    rw [hsup] at hdetector hseen hhalt hflag
    refine ⟨_, hexec, quietStep_of_frame hr hends, fun h => ?_, fun h => ?_, hflag, hseen.trans hosc.1, hhalt.trans hosc.2,
      by rw [endStep_tk, htime], by rw [endStep_tk, hdate], ?_⟩
    · rw [endStep_scan, hscan, hdetector, hready h, samplePins_scan, samplePins_sup]
      exact ⟨rfl, rfl⟩
    · rw [endStep_scan, hscan, hdetector, hfound h, enterHalted_running hphase, samplePins_scan]
      exact ⟨rfl, rfl⟩
    · rw [endStep_fault, hfault, hframe.same .fault (by decide), hframe.tk_eq, samplePins_tk, samplePins_fault]
  · rw [exec_haltDetection_records hpower hcut (.inr hrequest)]
    by_cases h : s.sup.haltReady = true ∨ s.sup.detector = .halted
    · rw [if_pos h, detectHalt_stays (h.imp_left fun hready => ⟨hready, hphase⟩)]
    · rw [not_or] at h
      rw [if_neg (not_or.2 h), detectHalt_enters (.inl (by simpa using h.1)) h.2, enterHalted_running hphase]
  · have hfound : detectHalt s = enterHalted s := detectHalt_enters (.inr hphase) hn
    have hnot : haltDue (detectHalt s) = false := by
      rw [hfound, enterHalted_held hphase]
      simp [haltDue, hphase]
    rw [exec_haltDetection_records hpower hcut (.inl hnot), hfound, enterHalted_held hphase]
  · by_cases hon : s.sup.power = .mainOn ∧ s.sup.cutShort = false
    · obtain ⟨hpower, hcut⟩ := hon
      have hquiet : s.sup.detector = .halted ∧ s.sup.haltReady = false := by
        rcases hstays with h | h | h
        · exact absurd hpower h
        · simp [hcut] at h
        · exact h
      have hsame : detectHalt s = s := detectHalt_stays (.inr hquiet.1)
      have hnot : haltDue (detectHalt s) = false := by
        rw [hsame]
        simp [haltDue, hquiet.2]
      rw [exec_haltDetection_records hpower hcut (.inl hnot), hsame]
    · exact congrArg Host.Outcome.next (if_neg hon)

end Sys2Proof.Machine
end

section
-- One lemma at a time: elaborated side by side they ask for more threads than the memory limit of the check leaves.
set_option Elab.async false
/-!
PROOF. The power states, part 1 of a reset, and the release of the host reset output (R174, R176, R177, R179 to R181).
-/

namespace Sys2Proof.Machine

/-! ### Steps that end while the main domain is held or unpowered -/

/-- Such an end only releases nINT. -/
theorem endStep_of_held {s : State} (h : s.sup.power = .mainOn → s.sup.phase = .held) :
    endStep s = { s with lv := { s.lv with nint := false } } := by
  have hline : interruptLine s = false := by
    by_cases hpower : s.sup.power = .mainOn
    · simp [interruptLine, h hpower]
    · simp [interruptLine, hpower]
  rw [endStep_held h, setInterruptLine, hline]

theorem endStep_held_changes {ps : List Part} {s : State} (h : s.sup.power = .mainOn → s.sup.phase = .held) :
    ChangesOnly ps s (endStep s) := by
  rw [endStep_of_held h]
  refine ⟨rfl, fun p _ => ?_⟩
  cases p <;> simp [Part.same]

theorem readsPins_endStep {s u : State} (h : u.env = (samplePins s).env) : ReadsPins s (endStep u) := by
  rw [ReadsPins, endStep_env, h, samplePins_env]

/-- A step that leaves the main domain running ends as every step of it does, wherever it began. -/
theorem endsStep_of_frame {parts : List Part} {s u : State} (h : Frame parts (samplePins s) u)
    (hpower : u.sup.power = .mainOn) (hphase : u.sup.phase ≠ .held) :
    EndsStep s (endStep u) u.lv.latches ∧ ChangesOnly (.latches :: parts) s (endStep u) :=
  ⟨endsStep_endStep hpower hphase h.env (h.pwrLow.trans (by rw [samplePins_sup])),
    ((samplePins_changes _ s).trans (h.changesOnly.mono (by simp))).trans ((endStep_changes u).mono (by simp))⟩

/-! ### Part 1 (R177) -/

/-- What part 1 with the reason `r` leaves, in whatever power state, before the end of its step. -/
def heldFor (r : ResetReason) (p : PowerState) (lost : Bool) (s : State) : State :=
  { mainDomainReset true s with
    sup := { (mainDomainReset true s).sup with power := p, phase := .held, reason := some r, vddLost := lost } }

theorem heldFor_changes (r : ResetReason) (p : PowerState) (lost : Bool) (s : State) :
    ChangesOnly partOneParts s (heldFor r p lost s) :=
  (mainDomainReset_changes true s).trans ((setPower_frame p .held (some r) lost _).changesOnly.mono)

/-- Its step ends as PART ONE says (R177). -/
theorem partOne_heldFor (r : ResetReason) (lost : Bool) (s : State) :
    PartOne r s (endStep (heldFor r .mainOn lost (samplePins s))) := by
  have hheld : (heldFor r .mainOn lost (samplePins s)).sup.power = .mainOn →
      (heldFor r .mainOn lost (samplePins s)).sup.phase = .held := fun _ => rfl
  have hchanges : ChangesOnly partOneParts s (endStep (heldFor r .mainOn lost (samplePins s))) :=
    ((samplePins_changes _ s).trans (heldFor_changes r .mainOn lost _)).trans (endStep_held_changes hheld)
  have hpins : ReadsPins s (endStep (heldFor r .mainOn lost (samplePins s))) := readsPins_endStep rfl
  have hlow : (heldFor r .mainOn lost (samplePins s)).sup.pwrLow = (seenPins s).vddLow := by
    show (samplePins s).env.pins.vddLow = _
    rw [samplePins_env]
  rw [endStep_of_held hheld] at hchanges hpins ⊢
  exact ⟨mainDomainReset_blocksReset true (samplePins s), rfl, rfl, rfl, rfl, rfl, rfl, rfl, rfl, rfl, rfl, rfl, rfl, hlow, hpins,
    hchanges⟩

theorem enterPartOne_eq {r : ResetReason} {s : State} (h : s.sup.power = .mainOn) :
    enterPartOne (some r) s = heldFor r .mainOn s.sup.vddLost s := by
  rw [heldFor, ← h]
  rfl

theorem enterMainOn_eq (s : State) :
    enterMainOn s = heldFor (mergeWith (inProgress s) (returnReason s)) .mainOn false s := rfl

/-! ### Requests that meet (R176) -/

theorem inProgress_of_running {s : State} (h : s.sup.phase ≠ .held) : inProgress s = s.sup.request := by
  unfold inProgress
  rw [if_neg h]

theorem inProgress_of_held {s : State} (h : s.sup.phase = .held) (hrequest : s.sup.request = none) :
    inProgress s = s.sup.reason := by
  unfold inProgress
  rw [if_pos h, hrequest]
  cases s.sup.reason <;> rfl

theorem inProgress_samplePins (s : State) : inProgress (samplePins s) = inProgress s := by
  unfold inProgress
  rw [samplePins_sup]

/-- A request of this LSI itself gives way to nRESET. -/
theorem mergeWith_pin {s : State} (h : RequestLegal s) : mergeWith s.sup.request .pin = .pin := by
  rcases h with h | h | h | h <;> rw [h] <;> rfl

theorem mergeReason_pin (r : ResetReason) : mergeReason r .pin = if (reasonCode r).toNat ≤ 4 then r else .pin := rfl

theorem reasonCode_injective {a b : ResetReason} (h : (reasonCode a).toNat = (reasonCode b).toNat) : a = b := by
  cases a <;> cases b <;> simp_all [reasonCode]

/-- The merge takes the lower code (R176). -/
theorem mergeReason_eq (a b : ResetReason) :
    mergeReason a b = if (reasonCode a).toNat < (reasonCode b).toNat then a else b := by
  unfold mergeReason
  by_cases hlt : (reasonCode a).toNat < (reasonCode b).toNat
  · rw [if_pos hlt, if_pos hlt.le]
  · rw [if_neg hlt]
    split
    · next hle => exact reasonCode_injective (by omega)
    · rfl

/-! ### The beginnings of a full reset (R176, R181) -/

theorem exec_softFullReset_begins {s : State} (h : softReady s = true) (hphase : s.sup.phase ≠ .held) :
    ∃ t, exec .softFullReset s = .next t ∧ PartOne .soft s t := by
  obtain ⟨hpower, hrequest, -⟩ := (softReady_iff s).1 h
  have hreason : inProgress (samplePins s) = some .soft := by
    rw [inProgress_samplePins, inProgress_of_running hphase, hrequest]
  refine ⟨endStep (heldFor .soft .mainOn s.sup.vddLost (samplePins s)), ?_, partOne_heldFor _ _ s⟩
  show Host.Outcome.next (if _ then _ else _) = _
  rw [if_pos h]
  show Host.Outcome.next (endStep (enterPartOne (inProgress (samplePins s)) (samplePins s))) = _
  rw [hreason, enterPartOne_eq (by rwa [samplePins_sup]), samplePins_sup]

theorem exec_nreset {s : State} (h : s.sup.power = .mainOn) :
    exec .nreset s = .next (endStep (pinReset (samplePins s))) := congrArg Host.Outcome.next (if_pos h)

theorem exec_nreset_begins {s : State} (hlegal : RequestLegal s) (hpower : s.sup.power = .mainOn)
    (hphase : s.sup.phase ≠ .held) : ∃ t, exec .nreset s = .next t ∧ PartOne .pin s t := by
  refine ⟨endStep (heldFor .pin .mainOn s.sup.vddLost (samplePins s)), ?_, partOne_heldFor _ _ s⟩
  rw [exec_nreset hpower, pinReset, if_neg (by rwa [samplePins_sup]), inProgress_samplePins, inProgress_of_running hphase,
    mergeWith_pin hlegal, enterPartOne_eq (by rwa [samplePins_sup]), samplePins_sup]

/-- nRESET while a reset is in progress merges with it (R176). -/
theorem exec_nreset_merges {r : ResetReason} {s : State} (hpower : s.sup.power = .mainOn) (hphase : s.sup.phase = .held)
    (hrequest : s.sup.request = none) (hreason : s.sup.reason = some r) :
    ∃ t, exec .nreset s = .next t ∧ ReadsPins s t ∧ ChangesOnly [.power] s t ∧ t.sup.power = .mainOn ∧
      t.sup.phase = .held ∧ t.sup.reason = some (if (reasonCode r).toNat ≤ 4 then r else .pin) := by
  have hbody : pinReset (samplePins s) = { samplePins s with
      sup := { (samplePins s).sup with reason := some (mergeReason r .pin) } } := by
    rw [pinReset, if_pos (by rwa [samplePins_sup]), inProgress_samplePins, inProgress_of_held hphase hrequest, hreason]
    rfl
  have hheld : (pinReset (samplePins s)).sup.phase = .held := by rw [hbody, samplePins_sup]; exact hphase
  refine ⟨_, exec_nreset hpower, readsPins_endStep (by rw [hbody]), ?_, ?_, by rw [endStep_phase, hheld], ?_⟩
  · refine ((samplePins_changes _ s).trans ?_).trans (endStep_held_changes fun _ => hheld)
    rw [hbody]
    exact (setPower_frame (samplePins s).sup.power (samplePins s).sup.phase _ (samplePins s).sup.vddLost _).changesOnly
  · rw [endStep_power, hbody, samplePins_sup]
    exact hpower
  · rw [endStep_reason, hbody, mergeReason_pin]

theorem exec_returnToMainOn_begins {s : State} (h : s.sup.power = .brownOut ∨ s.sup.power = .batteryOnly) :
    exec .returnToMainOn s =
      .next (endStep (heldFor (mergeWith (inProgress s) (returnReason s)) .mainOn false (samplePins s))) := by
  have hreason : returnReason (samplePins s) = returnReason s := by
    unfold returnReason
    rw [samplePins_sup]
  refine (congrArg Host.Outcome.next (if_pos h)).trans ?_
  show Host.Outcome.next (endStep (enterMainOn (samplePins s))) = _
  rw [enterMainOn_eq, inProgress_samplePins, hreason]

theorem exec_resetDevice_requests {s : State} (h : Started 0x02 s) : ∃ t, exec .resetDevice s = .next t ∧
    QuietStep [.request] s t ∧ t.sup.request = some .soft := by
  refine ⟨endStep (requestReset .soft (samplePins s)), exec_started .resetDevice h,
    quietStep_of_frame h.1 (requestReset_frame _ _), ?_⟩
  rw [endStep_request]
  show some (mergeWith (samplePins s).sup.request .soft) = _
  rw [samplePins_sup, h.1.2.2.1]
  rfl

/-- nRESET goes before the host-side reset that waits (R5; log entry 13). -/
theorem submit_nreset_before_hostSideReset {cut : Option Nat} {s : State} (h : s.pending = [.hostSideReset cut]) :
    State.submit .nreset s = { s with pending := [.nreset, .hostSideReset cut] } := by
  have harrives : discardedOnArrival s .nreset = false := by
    rw [← Bool.not_eq_true, discardedOnArrival_iff]
    exact not_discardedOnArrival (by decide)
  have hstays : discardedBy s .nreset (.hostSideReset cut) = false := by
    rw [← Bool.not_eq_true, discardedBy_iff, resetDiscards_iff]
    simp [MainDomainStep, WritesStop, kindOf]
  unfold State.submit
  rw [harrives, h, List.filter_cons, hstays]
  rfl

theorem exec_hostSideReset_held {cut : Option Nat} {s : State} (h : s.sup.phase = .held) :
    exec (.hostSideReset cut) s = .next s :=
  congrArg Host.Outcome.next (if_neg (by simp [hostSideReady, h]))

/-- Settles O50, cause by cause. -/
theorem fullResetBeginsWithPartOne : Obligations.FullResetBeginsWithPartOne := by
  refine ⟨fun s h => exec_resetDevice_requests h, fun s hpower hphase hrequest hcut =>
      exec_softFullReset_begins ((softReady_iff s).2 ⟨hpower, hrequest, hcut⟩) hphase,
    fun s hlegal hpower hphase => exec_nreset_begins hlegal hpower hphase,
    fun r s hpower hphase hrequest hreason => exec_nreset_merges hpower hphase hrequest hreason,
    fun s hpower hphase hrequest => ?_, fun cut r s hpending hpower hphase hcut hrequest hr => ?_⟩
  · have hexec := exec_returnToMainOn_begins hpower
    rw [inProgress_of_held hphase hrequest] at hexec
    have hreturn : returnReason s = if s.sup.coldMarker then .cold
        else if s.sup.vddLost = true ∨ s.sup.power = .batteryOnly then .powerOn else .brownOut := by
      simp [returnReason]
    rw [← hreturn]
    refine ⟨fun hnone => ⟨_, hexec, ?_⟩, fun r hr => ⟨_, hexec, ?_⟩⟩
    · rw [hnone]
      exact partOne_heldFor _ _ s
    · rw [hr, ← mergeReason_eq]
      exact partOne_heldFor _ _ s
  · have hlegal : RequestLegal s := by
      rcases hr with rfl | rfl
      · exact .inr (.inr (.inl hrequest))
      · exact .inr (.inr (.inr hrequest))
    obtain ⟨t, hexec, hpart⟩ := exec_nreset_begins hlegal hpower hphase
    obtain ⟨-, -, -, -, -, hheld, -, -, -, -, -, -, -, -, -, hchanges, -⟩ := id hpart
    have hwaiting : { s with pending := [.hostSideReset cut] } = s := by rw [← hpending]
    have hstep : step (State.submit .nreset s) = .next t := by
      rw [submit_nreset_before_hostSideReset hpending, ← hexec, ← hwaiting]
      rfl
    refine ⟨t, hstep, hpart, ?_⟩
    have hqueue : t.pending = [.hostSideReset cut] := hchanges.trans hpending
    rw [step, hqueue]
    exact exec_hostSideReset_held (s := { t with pending := [] }) hheld

/-! ### The release of the host reset output (R180) -/

theorem hostResetAsserted_iff (s : State) : hostResetAsserted s = true ↔
    s.sup.power = .brownOut ∨ (s.sup.power = .mainOn ∧ (s.sup.phase = .held ∨ s.sup.phase = .stretch)) := by
  rw [hostResetAsserted_eq_true_iff]
  cases s.sup.phase <;> simp

/-- A locked fault record makes level 15 eligible (R94, R101). -/
theorem interruptLine_of_locked {s : State} (hpower : s.sup.power = .mainOn) (hphase : s.sup.phase = .run)
    (hlocked : s.fault.locked = true) (henabled : s.lv.enables.getLsbD 15 = true) (hstack : s.lv.stack = []) :
    interruptLine s = true := by
  have hactive : sourceActive s 14 = true := by
    rw [sourceActive_eq, liveWord_getLsbD s (by decide), hlocked]
    simp
  refine (interruptLine_iff s).2 ⟨hpower, hphase, 15, (eligible_iff s 15).2 ⟨?_, henabled, .inr rfl, .inl hstack⟩⟩
  exact (levelPending_iff s 15).2 (.inr (.inr hactive))

theorem releaseHost_sup (s : State) :
    (releaseHost s).sup = { s.sup with phase := .run, stretchTicks := 0, stretchClks := 0 } := rfl

/-- Settles O54: the release is the step that the end of the stretch makes ready. -/
theorem hostResetReleaseOpensThePort : Obligations.HostResetReleaseOpensThePort := by
  refine ⟨hostResetAsserted_iff, fun s hclosed => ⟨fun hnot => ?_, fun hover => ?_⟩⟩
  · exact congrArg Host.Outcome.next (if_neg fun h => hnot ((releaseReady_iff s).1 h).2)
  · have hexec : exec .nhrstRelease s = .next (endStep (releaseHost (samplePins s))) :=
      congrArg Host.Outcome.next (if_pos ((releaseReady_iff s).2 ⟨hclosed, hover⟩))
    obtain ⟨hpower, -, hrequest, hcut⟩ := hclosed.1
    have hmain : (releaseHost (samplePins s)).sup.power = .mainOn := by
      rw [releaseHost_sup, samplePins_sup]
      exact hpower
    have hrun : (releaseHost (samplePins s)).sup.phase = .run := rfl
    have hframe := releaseHost_frame (samplePins s)
    have hlatches : (releaseHost (samplePins s)).lv.latches = s.lv.latches := by
      rw [hframe.same .latches (by decide), samplePins_lv]
    obtain ⟨hends, hchanges⟩ := endsStep_of_frame hframe hmain (by rw [hrun]; decide)
    rw [hlatches] at hends
    have hpower' : (endStep (releaseHost (samplePins s))).sup.power = .mainOn := by rw [endStep_power, hmain]
    have hphase' : (endStep (releaseHost (samplePins s))).sup.phase = .run := by rw [endStep_phase, hrun]
    have hrequest' : (endStep (releaseHost (samplePins s))).sup.request = none := by
      rw [hchanges.2 .request (by decide), hrequest]
    have hcut' : (endStep (releaseHost (samplePins s))).sup.cutShort = false := by
      rw [hchanges.2 .cut (by decide), hcut]
    have hruns : Runs (endStep (releaseHost (samplePins s))) := ⟨hpower', by rw [hphase']; decide, hrequest', hcut'⟩
    refine ⟨_, hexec, ⟨hruns, hphase'⟩, ?_, ⟨hends, hchanges⟩, hpower', ?_, ?_, ?_, ?_, fun hlocked henabled hstack => ?_⟩
    · rw [← Bool.not_eq_true, hostResetAsserted_iff, hpower', hphase']
      simp
    · rw [endStep_reason, releaseHost_sup, samplePins_sup]
    · rw [endStep_scan]
      rfl
    · rw [endStep_scan]
      rfl
    · rw [endStep_scan]
      show scanCycles (samplePins s).cfg = _
      rw [samplePins_cfg]
      rfl
    · rw [hends.2.2.2.2.2]
      refine interruptLine_of_locked hpower' hphase' ?_ ?_ ?_
      · rw [hchanges.2 .fault (by decide), hlocked]
      · rw [hchanges.2 .enables (by decide), henabled]
      · rw [hchanges.2 .stack (by decide), hstack]

end Sys2Proof.Machine
end

section
-- One lemma at a time: elaborated side by side they ask for more threads than the memory limit of the check leaves.
set_option Elab.async false
/-!
PROOF. The changes of power state and what this LSI then drives (R46, R127, R157, R168, R174, R179).
-/

namespace Sys2Proof.Machine

/-- A step of the power supply: it samples the inputs, does its own work, and finds the main domain held or unpowered. -/
theorem powerStep_changes {parts : List Part} {s u : State} (h : ChangesOnly parts (samplePins s) u)
    (hheld : u.sup.power = .mainOn → u.sup.phase = .held) : ChangesOnly parts s (endStep u) :=
  ((samplePins_changes _ s).trans h).trans (endStep_held_changes hheld)

/-! ### BROWN-OUT -/

theorem enterBrownOut_changes (s : State) : ChangesOnly partOneParts s (enterBrownOut s) := by
  have hhalt (u : State) : Frame [.halt] u { u with sup := { u.sup with haltReady := false } } := by
    refine ⟨rfl, rfl, rfl, ⟨rfl, rfl, rfl⟩, fun p hp => ?_⟩
    cases p <;> simp_all [Part.same]
  exact ((mainDomainReset_changes false s).trans (hhalt _).changesOnly.mono).trans (setPower_frame _ _ _ _ _).changesOnly.mono

theorem brownOutEntry_holds {s : State} (h : s.sup.power = .mainOn) :
    ∃ t, exec .brownOutEntry s = .next t ∧ t.sup.power = .brownOut ∧ t.sup.phase = .held ∧ BlocksReset t ∧
      t.lv.latches = 0 ∧ t.lv.nint = false ∧ ReadsPins s t ∧ t.fault = s.fault ∧ t.sup.vddLost = false ∧
      t.sup.reason = (if s.sup.phase = .held then s.sup.reason else none) ∧ t.sup.haltReady = false ∧
      ChangesOnly partOneParts s t := by
  have hheld : (enterBrownOut (samplePins s)).sup.power = .mainOn → (enterBrownOut (samplePins s)).sup.phase = .held :=
    fun _ => rfl
  have hchanges := powerStep_changes (enterBrownOut_changes (samplePins s)) hheld
  have hpins : ReadsPins s (endStep (enterBrownOut (samplePins s))) := readsPins_endStep rfl
  refine ⟨_, congrArg Host.Outcome.next (if_pos h), ?_⟩
  show (endStep (enterBrownOut (samplePins s))).sup.power = _ ∧ _
  rw [endStep_of_held hheld] at hchanges hpins ⊢
  refine ⟨rfl, rfl, mainDomainReset_blocksReset false (samplePins s), rfl, rfl, hpins, samplePins_fault s, rfl, ?_, rfl, hchanges⟩
  show (if (samplePins s).sup.phase = .held then (samplePins s).sup.reason else none) = _
  rw [samplePins_sup]

/-! ### VDD and VBAT -/

theorem vddLoss_unpowers {s : State} (h : s.sup.power = .brownOut) :
    ∃ t, exec .vddLoss s = .next t ∧ ReadsPins s t ∧ ChangesOnly [.power] s t ∧
      t.sup.power = (if (seenPins s).vbatPresent then .batteryOnly else .dead) ∧
      t.sup.phase = s.sup.phase ∧ t.sup.reason = none ∧ t.sup.vddLost = true := by
  have hpower : (loseVdd (samplePins s)).sup.power = if (seenPins s).vbatPresent then .batteryOnly else .dead := by
    show (if (samplePins s).env.pins.vbatPresent then _ else _) = _
    rw [samplePins_env]
  have hheld : (loseVdd (samplePins s)).sup.power = .mainOn → (loseVdd (samplePins s)).sup.phase = .held := by
    rw [hpower]
    split <;> simp
  refine ⟨endStep (loseVdd (samplePins s)), congrArg Host.Outcome.next (if_pos h), readsPins_endStep rfl,
    powerStep_changes (loseVdd_frame _).changesOnly hheld, ?_, ?_, ?_, ?_⟩
  · rw [endStep_power, hpower]
  · rw [endStep_phase]
    show (samplePins s).sup.phase = _
    rw [samplePins_sup]
  · rw [endStep_reason]
    rfl
  · rw [((endStep_held_changes (ps := []) hheld).2 .power (by decide)).2.2.2]
    rfl

theorem belowBrownOut_supplied {s : State} (h : s.sup.power = .batteryOnly) :
    ∃ t, exec .vddBelowBrownOutLevel s = .next t ∧ ReadsPins s t ∧ ChangesOnly [.power] s t ∧
      t.sup.power = .brownOut ∧ t.sup.phase = .held ∧ t.sup.reason = s.sup.reason ∧ t.sup.vddLost = true := by
  have heq := enterFromBelow_supplied (s := samplePins s) (by rw [samplePins_sup, h]; decide)
  have hchanges : ChangesOnly [.power] (samplePins s) (enterFromBelow (samplePins s)) := by
    rw [heq]
    exact (setPower_frame .brownOut .held (samplePins s).sup.reason true _).changesOnly
  have hheld : (enterFromBelow (samplePins s)).sup.power = .mainOn → (enterFromBelow (samplePins s)).sup.phase = .held := by
    rw [heq]
    exact fun _ => rfl
  refine ⟨endStep (enterFromBelow (samplePins s)), congrArg Host.Outcome.next (if_pos (.inl h)),
    readsPins_endStep (by rw [heq]), powerStep_changes hchanges hheld, ?_⟩
  obtain ⟨hpower, hphase, hreason, hlost⟩ := (endStep_held_changes (ps := []) hheld).2 .power (by decide)
  rw [hpower, hphase, hreason, hlost, heq, samplePins_sup]
  exact ⟨rfl, rfl, rfl, rfl⟩

theorem setVbat_changes (ps : List Part) (b : Bool) (s : State) : ChangesOnly ps s (setVbat b s) := by
  refine ⟨rfl, fun p _ => ?_⟩
  cases p <;> simp [Part.same, setVbat]

theorem vbatLoss_kills {s : State} (h : s.sup.power = .batteryOnly) :
    ∃ t, exec .vbatLoss s = .next t ∧ ChangesOnly [.power] s t ∧ t.sup.power = .dead ∧
      t.sup.phase = s.sup.phase ∧ t.sup.reason = s.sup.reason ∧ t.sup.vddLost = s.sup.vddLost := by
  have hdead : ChangesOnly [.power] (samplePins s)
      (setVbat false { samplePins s with sup := { (samplePins s).sup with power := .dead } }) :=
    ((setPower_frame .dead (samplePins s).sup.phase (samplePins s).sup.reason (samplePins s).sup.vddLost _).changesOnly).trans
      (setVbat_changes _ false _)
  generalize hu : setVbat false { samplePins s with sup := { (samplePins s).sup with power := .dead } } = u at hdead
  have hsup : u.sup = { s.sup with power := .dead } := by rw [← hu, ← samplePins_sup s]; rfl
  have hheld : u.sup.power = .mainOn → u.sup.phase = .held := by rw [hsup]; exact fun h => by cases h
  refine ⟨endStep u, ?_, powerStep_changes hdead hheld, ?_⟩
  · rw [← hu]
    exact congrArg Host.Outcome.next (if_pos h)
  · obtain ⟨hpower, hphase, hreason, hlost⟩ := (endStep_held_changes (ps := []) hheld).2 .power (by decide)
    rw [hpower, hphase, hreason, hlost, hsup]
    exact ⟨rfl, rfl, rfl, rfl⟩

/-! ### The start of the battery domain (R157, R168) -/

/-- Every byte of the memory after a loss of the battery domain is a free value (log entry 3). -/
theorem arbitraryMemory_byte (n : Nat) {a : Nat} (ha : a < 64) : memByte (arbitraryMemory n) a = Config.lostByte n a := by
  refine memByte_memWrites_of_mem (by decide) (fun w hw => ?_) ?_ (List.mem_map.2 ⟨a, List.mem_range.2 ha, rfl⟩)
  · obtain ⟨k, hk, rfl⟩ := List.mem_map.1 hw
    exact List.mem_range.1 hk
  · rw [List.map_map, show (Prod.fst ∘ fun a => (a, Config.lostByte n a)) = id from rfl, List.map_id]
    exact List.nodup_range

theorem startBattery_fields (s : State) : (startBattery s).mem = arbitraryMemory s.starts ∧ (startBattery s).tk = {} ∧
    (startBattery s).starts = s.starts + 1 ∧ (startBattery s).sup = { s.sup with coldMarker := true } := by
  unfold startBattery
  generalize arbitraryMemory s.starts = m
  exact ⟨rfl, rfl, rfl, rfl⟩

/-- The state after a start of the battery domain from `s` that leaves the power state as given. -/
def startedWith (p : PowerState) (r : ResetPhase) (reason : Option ResetReason) (lost : Bool) (s : State) : State :=
  { startBattery s with sup := { (startBattery s).sup with power := p, phase := r, reason := reason, vddLost := lost } }

theorem startedWith_frame (p : PowerState) (r : ResetPhase) (reason : Option ResetReason) (lost : Bool) (s : State) :
    Frame [.power, .calendar, .counters, .adjust, .alarm, .setFlags, .wake, .memory, .starts, .coldMarker] s
      (startedWith p r reason lost s) :=
  (startBattery_frame s).trans (setPower_frame p r reason lost _)

theorem startedWith_fields (p : PowerState) (r : ResetPhase) (reason : Option ResetReason) (lost : Bool) (s : State) :
    (startedWith p r reason lost s).mem = arbitraryMemory s.starts ∧ (startedWith p r reason lost s).tk = {} ∧
      (startedWith p r reason lost s).starts = s.starts + 1 ∧ (startedWith p r reason lost s).sup.coldMarker = true ∧
      (startedWith p r reason lost s).sup.power = p ∧ (startedWith p r reason lost s).sup.phase = r ∧
      (startedWith p r reason lost s).sup.reason = reason ∧ (startedWith p r reason lost s).sup.vddLost = lost := by
  unfold startedWith startBattery
  generalize arbitraryMemory s.starts = m
  exact ⟨rfl, rfl, rfl, rfl, rfl, rfl, rfl, rfl⟩

/-- The end of the step of a start from DEAD. -/
theorem batteryStarts_endStep {s v : State} (hv : ChangesOnly [] s v) (p : PowerState) (r : ResetPhase)
    (reason : Option ResetReason) (lost : Bool) (hp : p = .brownOut ∨ p = .batteryOnly) :
    BatteryStarts s (endStep (startedWith p r reason lost v)) ∧
      (endStep (startedWith p r reason lost v)).sup.power = p ∧ (endStep (startedWith p r reason lost v)).sup.phase = r ∧
      (endStep (startedWith p r reason lost v)).sup.reason = reason ∧
      (endStep (startedWith p r reason lost v)).sup.vddLost = lost ∧
      ChangesOnly [.power, .calendar, .counters, .adjust, .alarm, .setFlags, .wake, .memory, .starts, .coldMarker] s
        (endStep (startedWith p r reason lost v)) := by
  have hchanges := (startedWith_frame p r reason lost v).changesOnly
  obtain ⟨hmem, htk, hstarts, hcold, hpower, hphase, hreason, hlost⟩ := startedWith_fields p r reason lost v
  have hsame : v.starts = s.starts := hv.2 .starts (by decide)
  rw [hsame] at hmem hstarts
  generalize startedWith p r reason lost v = u at *
  have hheld : u.sup.power = .mainOn → u.sup.phase = .held := by
    rw [hpower]
    rcases hp with rfl | rfl <;> exact fun h => by cases h
  have hend := endStep_held_changes (ps := []) hheld
  obtain ⟨hp', hr', hreason', hlost'⟩ := hend.2 .power (by decide)
  have hsub : ([] : List Part) ⊆
      [.power, .calendar, .counters, .adjust, .alarm, .setFlags, .wake, .memory, .starts, .coldMarker] := by decide
  refine ⟨?_, hp'.trans hpower, hr'.trans hphase, hreason'.trans hreason, hlost'.trans hlost,
    ((hv.mono hsub).trans hchanges).trans (hend.mono hsub)⟩
  have htk' : (endStep u).tk = {} := by rw [endStep_tk, htk]
  have hmem' : (endStep u).mem = arbitraryMemory s.starts := by rw [endStep_mem, hmem]
  unfold BatteryStarts
  rw [htk', hmem']
  exact ⟨rfl, rfl, rfl, rfl, rfl, rfl, rfl, rfl, rfl, fun a ha => arbitraryMemory_byte s.starts ha,
    (hend.2 .starts (by decide)).trans hstarts, (hend.2 .coldMarker (by decide)).trans hcold⟩

theorem belowBrownOut_dead {s : State} (h : s.sup.power = .dead) :
    ∃ t, exec .vddBelowBrownOutLevel s = .next t ∧ BatteryStarts s t ∧ t.sup.power = .brownOut ∧ t.sup.phase = .held ∧
      t.sup.reason = s.sup.reason ∧ t.sup.vddLost = true ∧
      ChangesOnly [.power, .calendar, .counters, .adjust, .alarm, .setFlags, .wake, .memory, .starts, .coldMarker] s t := by
  have hexec : exec .vddBelowBrownOutLevel s = .next (endStep (enterFromBelow (samplePins s))) :=
    congrArg Host.Outcome.next (if_pos (.inr h))
  have hreason : (startBattery (samplePins s)).sup.reason = s.sup.reason := by
    obtain ⟨-, -, -, hsup⟩ := startBattery_fields (samplePins s)
    rw [hsup, samplePins_sup]
  have hbelow : enterFromBelow (samplePins s) = startedWith .brownOut .held s.sup.reason true (samplePins s) := by
    rw [enterFromBelow_dead (by rwa [samplePins_sup]), startedWith, ← hreason]
  rw [hbelow] at hexec
  exact ⟨_, hexec, batteryStarts_endStep (samplePins_changes [] s) _ _ _ _ (.inl rfl)⟩

theorem vbatPresent_dead {s : State} (h : s.sup.power = .dead) :
    ∃ t, exec .vbatPresent s = .next t ∧ BatteryStarts s t ∧ t.sup.power = .batteryOnly ∧
      t.sup.phase = s.sup.phase ∧ t.sup.reason = s.sup.reason ∧ t.sup.vddLost = s.sup.vddLost ∧
      ChangesOnly [.power, .calendar, .counters, .adjust, .alarm, .setFlags, .wake, .memory, .starts, .coldMarker] s t := by
  have hexec : exec .vbatPresent s = .next (endStep { startBattery (setVbat true (samplePins s)) with
      sup := { (startBattery (setVbat true (samplePins s))).sup with power := .batteryOnly } }) :=
    congrArg Host.Outcome.next (if_pos h)
  have hsup : (startBattery (setVbat true (samplePins s))).sup = { s.sup with coldMarker := true } := by
    obtain ⟨-, -, -, hsup⟩ := startBattery_fields (setVbat true (samplePins s))
    rw [hsup, ← samplePins_sup s]
    rfl
  have hstarted : { startBattery (setVbat true (samplePins s)) with
      sup := { (startBattery (setVbat true (samplePins s))).sup with power := .batteryOnly } } =
      startedWith .batteryOnly s.sup.phase s.sup.reason s.sup.vddLost (setVbat true (samplePins s)) := by
    rw [startedWith, hsup]
  rw [hstarted] at hexec
  exact ⟨_, hexec, batteryStarts_endStep ((samplePins_changes [] s).trans (setVbat_changes [] true _)) _ _ _ _ (.inr rfl)⟩

/-! ### The outputs (R46, R127, R179) -/

theorem lampOutputs_unlit {s : State} (h : s.sup.phase = .held ∨ s.sup.power ≠ .mainOn) : lampOutputs s = 0 :=
  if_pos (by rcases h with h | h <;> simp [h])

theorem chainOutputs_cases (s : State) :
    ((s.sup.power = .mainOn ∧ s.sup.phase = .held) ∨ s.sup.power = .brownOut →
      chainOutputs s = some { idg := false, chs := false, chc := true }) ∧
    (s.sup.power = .batteryOnly ∨ s.sup.power = .dead → chainOutputs s = none) ∧
    (s.sup.power = .mainOn → s.sup.phase ≠ .held →
      chainOutputs s = some { idg := s.id.idg, chs := s.id.chs, chc := s.id.chc }) := by
  refine ⟨?_, ?_, fun hpower hphase => ?_⟩
  · rintro (⟨hpower, hphase⟩ | hpower)
    · simp [chainOutputs, mainPowered, heldInReset, chainAtRest, hpower, hphase]
    · simp [chainOutputs, mainPowered, heldInReset, chainAtRest, hpower]
  · rintro (hpower | hpower) <;> simp [chainOutputs, mainPowered, hpower]
  · simp [chainOutputs, mainPowered, heldInReset, hpower, hphase]

/-- Settles O51, change by change. -/
theorem powerStatesChangeAsTheTableSays : Obligations.PowerStatesChangeAsTheTableSays := by
  refine ⟨fun s h => brownOutEntry_holds h, fun s h => vddLoss_unpowers h,
    fun s h => ⟨belowBrownOut_supplied h, vbatLoss_kills h⟩, fun s h => ⟨belowBrownOut_dead h, vbatPresent_dead h⟩,
    fun s => ?_, fun s => ⟨fun h => ?_, fun h => ?_⟩⟩
  · obtain ⟨hrest, hnone, hdriven⟩ := chainOutputs_cases s
    exact ⟨lampOutputs_unlit, hrest, fun h => ⟨hnone h, hostResetAsserted_of_unpowered h⟩, hdriven⟩
  · exact congrArg Host.Outcome.next (if_neg h)
  · exact congrArg Host.Outcome.next (if_neg h)

end Sys2Proof.Machine
end

section
-- One lemma at a time: elaborated side by side they ask for more threads than the memory limit of the check leaves.
set_option Elab.async false
/-!
PROOF. The reset sequences: validation and the reset record, parts 2 to 7 of a full reset, and the host-side reset (R154,
R160 to R162, R177, R178).
-/

namespace Sys2Proof.Machine

/-! ### Validation and the reset record (R160, R162) -/

/-- The bytes of the record update, before the checksum (R162). -/
def recordBytes (r : ResetReason) (m : Memory) : List (Nat × Byte) :=
  [(59, memByte m 58), (58, reasonCode r)] ++ (countAddress r).toList.map (fun a => (a, countUp (memByte m a)))

theorem recordWrites_eq (r : ResetReason) (m : Memory) : recordWrites r m = withChecksum m (recordBytes r m) := by
  cases r <;> rfl

theorem countUp_eq (b : Byte) : countUp b = if b ≠ 255 then b + 1 else b := by
  unfold countUp
  by_cases h : b = 255
  · rw [if_pos h, if_neg (not_not.2 h), h]
  · rw [if_neg h, if_pos h]

theorem recordBytes_addresses (r : ResetReason) (m : Memory) :
    (∀ w ∈ recordBytes r m, 58 ≤ w.1 ∧ w.1 < 63) ∧ ((recordBytes r m).map Prod.fst).Nodup := by
  cases r <;> simp [recordBytes, countAddress]

/-- The three counts stand at 60 to 62, one for each of their reasons. -/
theorem countAddress_range {r : ResetReason} {a : Nat} (h : countAddress r = some a) : 60 ≤ a ∧ a ≤ 62 := by
  cases r <;> simp [countAddress] at h <;> omega

theorem countAddress_injective {r q : ResetReason} {a : Nat} (hr : countAddress r = some a) (hq : countAddress q = some a) :
    r = q := by
  have hsame := hr.trans hq.symm
  have hsome : countAddress r ≠ none := by simp [hr]
  clear hr hq
  cases r <;> cases q <;> simp_all [countAddress]

/-- A count byte after the update: one more for its own reason, otherwise as it was (R162). -/
theorem record_count {m u : Memory} {r q : ResetReason} {a : Nat} (ha : countAddress q = some a)
    (hwritten : ∀ a b, (a, b) ∈ recordBytes r m → memByte u a = b)
    (hkept : ∀ a, a ≠ 63 → (∀ w ∈ recordBytes r m, w.1 ≠ a) → memByte u a = memByte m a) :
    memByte u a = if r = q ∧ memByte m a ≠ 255 then memByte m a + 1 else memByte m a := by
  by_cases hr : r = q
  · subst hr
    rw [hwritten a (countUp (memByte m a)) (by simp [recordBytes, ha]), countUp_eq]
    simp
  · obtain ⟨h60, h62⟩ := countAddress_range ha
    rw [if_neg fun h => hr h.1]
    refine hkept a (by omega) fun w hw hwa => ?_
    simp only [recordBytes, List.mem_append, List.mem_cons, List.not_mem_nil, or_false, List.mem_map,
      Option.mem_toList] at hw
    obtain (rfl | rfl) | ⟨b, hb, rfl⟩ := hw
    · have : 59 = a := hwa
      omega
    · have : 58 = a := hwa
      omega
    · have hab : b = a := hwa
      exact hr (countAddress_injective (hab ▸ hb) ha)

/-- The record update leaves its bytes and no other but the checksum (R162). -/
theorem recordUpdated_of_writes {m : Memory} (h : Memory.wf m = true) {r : ResetReason} {t : State}
    (ht : t.mem = memWrites m (recordWrites r m)) :
    RecordUpdated r (memByte m) t ∧ ∀ a, a < 58 → memByte t.mem a = memByte m a := by
  obtain ⟨haddress, hnodup⟩ := recordBytes_addresses r m
  obtain ⟨hwritten, hkept⟩ := memByte_withChecksum h (fun w hw => (haddress w hw).2) hnodup
  have hconsistent := memConsistent_withChecksum h (ws := recordBytes r m) fun w hw => (haddress w hw).2.trans (by decide)
  rw [← recordWrites_eq, ← ht] at hwritten hkept hconsistent
  refine ⟨⟨hwritten 58 _ (by simp [recordBytes]), hwritten 59 _ (by simp [recordBytes]), record_count rfl hwritten hkept,
    record_count rfl hwritten hkept, record_count rfl hwritten hkept, hconsistent⟩, fun a ha => ?_⟩
  exact hkept a (by omega) fun w hw => by have := (haddress w hw).1; omega

theorem memByte_validated {m : Memory} (h : Memory.wf m = true) {a : Nat} (ha : a < 64) :
    memByte (memWrites m validationWrites) a = factoryByte a := by
  refine memByte_memWrites_of_mem h (fun w hw => ?_) ?_ (List.mem_map.2 ⟨a, List.mem_range.2 ha, rfl⟩)
  · obtain ⟨k, hk, rfl⟩ := List.mem_map.1 hw
    exact List.mem_range.1 hk
  · rw [validationWrites, List.map_map, show (Prod.fst ∘ fun a => (a, factoryByte a)) = id from rfl, List.map_id]
    exact List.nodup_range

/-- The chord entries of the factory image are all zero (R159, R160). -/
theorem factoryByte_chords : ∀ a, 46 ≤ a → a < 58 → factoryByte a = 0 := by
  have hall : ∀ a < 58, 46 ≤ a → factoryByte a = 0 := by decide
  exact fun a h46 ha => hall a ha h46

theorem foundInvalid_iff (r : ResetReason) (s : State) :
    foundInvalid r (batterySeenLow s) s.mem = true ↔ Invalid r s := by
  simp [foundInvalid, Invalid, memConsistent, or_assoc]

theorem validation_wf {m : Memory} (h : Memory.wf m = true) : Memory.wf (memWrites m validationWrites) = true :=
  memWrites_wf h fun w hw => by
    obtain ⟨k, hk, rfl⟩ := List.mem_map.1 hw
    exact List.mem_range.1 hk

theorem fullResetWrites_valid {r : ResetReason} {s : State} (h : ¬ Invalid r s) :
    memWrites s.mem (fullResetWrites r (batterySeenLow s) s.mem) = memWrites s.mem (recordWrites r s.mem) := by
  rw [fullResetWrites, if_neg (mt (foundInvalid_iff r s).1 h)]
  rfl

theorem fullResetWrites_invalid {r : ResetReason} {s : State} (h : Invalid r s) :
    memWrites s.mem (fullResetWrites r (batterySeenLow s) s.mem) =
      memWrites (memWrites s.mem validationWrites) (recordWrites r (memWrites s.mem validationWrites)) := by
  rw [fullResetWrites, if_pos ((foundInvalid_iff r s).2 h), memWrites_append]

/-! ### Parts 2 to 7 (R177) -/

theorem exec_fullResetSequence_waits {cut : Option Nat} {s : State}
    (h : (s.sup.oscSeen = false ∧ s.sup.oscHalt = none) ∨ (seenPins s).nresetLow = true ∨ s.sup.power ≠ .mainOn) :
    exec (.fullResetSequence cut) s = .next s := by
  refine congrArg Host.Outcome.next (if_neg fun hready => ?_)
  obtain ⟨hpower, -, -, hchecked, hreset⟩ := (fullResetReady_iff s).1 hready
  rcases h with ⟨hseen, hhalt⟩ | hlow | hoff
  · rw [hseen, hhalt] at hchecked
    simp at hchecked
  · rw [hlow] at hreset
    cases hreset
  · exact hoff hpower

theorem exec_fullResetSequence {cut : Option Nat} {r : ResetReason} {s : State} (h : SequenceWaits r s) :
    exec (.fullResetSequence cut) s = .next (endStep (fullResetBody cut (samplePins s))) ∧
      (samplePins s).sup.reason.getD .powerOn = r := by
  obtain ⟨hpower, hphase, hcut, hreason, hreset, hchecked⟩ := h
  refine ⟨congrArg Host.Outcome.next (if_pos ((fullResetReady_iff s).2 ⟨hpower, hphase, hcut, hchecked, hreset⟩)), ?_⟩
  rw [samplePins_sup, hreason]
  rfl

theorem batteryLow_samplePins (s : State) : batteryLow (samplePins s).env.pins = batterySeenLow s := by
  rw [samplePins_env]
  rfl

/-- The faults of the sequence (R137, R155, R160). -/
theorem fullResetFaults_eq (r : ResetReason) (s : State) : fullResetFaults r (samplePins s) =
    (if foundInvalid r (batterySeenLow s) s.mem then [invalidFault (batterySeenLow s) s.mem] else []) ++
      (s.sup.oscHalt.map haltFault).toList := by
  rw [fullResetFaults, batteryLow_samplePins, samplePins_mem, samplePins_sup]

/-- BACKUP-INVALID has the lowest cause code, so an unlocked record takes it and counts a halt (R132, R160). -/
theorem captureInto_invalid {f : FaultRecord} (hfree : f.locked = false) {r : ResetReason} {s : State} (h : Invalid r s) :
    captureInto f (fullResetFaults r (samplePins s)) =
      { cause := some .backupInvalid, origin := some .backup, detailA := memSum s.mem 64,
        detailB := if batterySeenLow s then 1 else 0, lost := if s.sup.oscHalt = none then 0 else 1, locked := true } := by
  have hlow : bitAt 0 (batterySeenLow s) = if batterySeenLow s then 1 else 0 := by cases batterySeenLow s <;> rfl
  rw [fullResetFaults_eq, if_pos ((foundInvalid_iff r s).2 h), ← hlow]
  cases hhalt : s.sup.oscHalt with
  | none =>
    refine (captureInto_free hfree _ _).trans ?_
    rfl
  | some details =>
    refine (captureInto_free hfree _ _).trans ?_
    rfl

theorem captureInto_valid {f : FaultRecord} {r : ResetReason} {s : State} (h : ¬ Invalid r s) :
    (∀ a b, s.sup.oscHalt = some (a, b) →
      captureInto f (fullResetFaults r (samplePins s)) = recordAfter ⟨.clockHalt, .timekeeper, a, b⟩ f) ∧
    (s.sup.oscHalt = none → captureInto f (fullResetFaults r (samplePins s)) = f) := by
  rw [fullResetFaults_eq, if_neg (mt (foundInvalid_iff r s).1 h)]
  refine ⟨fun a b hhalt => ?_, fun hhalt => ?_⟩
  · rw [hhalt]
    exact captureInto_single _ _
  · rw [hhalt]
    rfl

/-- Settles O52: what the parts leave, through the end of the step. -/
theorem fullResetSequenceRestoresAndRecords : Obligations.FullResetSequenceRestoresAndRecords := by
  refine ⟨fun cut s h => exec_fullResetSequence_waits h, fun r s hcanonical hwaits => ?_⟩
  obtain ⟨hexec, hreason⟩ := exec_fullResetSequence (cut := none) hwaits
  have hbody : fullResetBody none (samplePins s) = fullResetParts r (samplePins s) := by rw [← hreason]; rfl
  rw [hbody] at hexec
  have hsup := fullResetParts_sup r (samplePins s)
  have hmem := fullResetParts_mem r (samplePins s)
  have hfault := fullResetParts_fault r (samplePins s)
  have hcfg := fullResetParts_cfg r (samplePins s)
  have htr := fullResetParts_tr r (samplePins s)
  have htk := fullResetParts_tk r (samplePins s)
  have hlatches := fullResetParts_latches r (samplePins s)
  have hframe := fullResetParts_frame r (samplePins s)
  rw [batteryLow_samplePins, samplePins_sup, samplePins_mem] at hsup
  rw [batteryLow_samplePins, samplePins_mem] at hmem
  rw [samplePins_fault] at hfault
  rw [samplePins_lv, samplePins_tk] at hlatches
  rw [samplePins_tk, samplePins_sup] at htk
  generalize fullResetParts r (samplePins s) = u at *
  obtain ⟨hends, hchanges⟩ := endsStep_of_frame hframe (by rw [hsup]; exact hwaits.1) (by rw [hsup]; simp)
  rw [hlatches] at hends
  refine ⟨_, hexec, fun hvalid => ?_, fun hinvalid => ?_, ?_, ?_, ?_, hends, hchanges.mono, ?_, ?_, ?_, ?_, ?_, ?_, ?_, ?_, ?_, ?_,
    ?_, fun hfree => ⟨fun hinvalid => ?_, fun hvalid a b hhalt => ?_, fun hvalid hhalt => ?_⟩⟩
  · obtain ⟨hrecord, hkept⟩ := recordUpdated_of_writes hcanonical.1 (t := endStep u)
      (by rw [endStep_mem, hmem, fullResetWrites_valid hvalid])
    exact ⟨hkept, hrecord⟩
  · obtain ⟨hrecord, hkept⟩ := recordUpdated_of_writes (validation_wf hcanonical.1) (t := endStep u)
      (by rw [endStep_mem, hmem, fullResetWrites_invalid hinvalid])
    have hbyte (a : Nat) (ha : a < 58) : memByte (endStep u).mem a = factoryByte a := by
      rw [hkept a ha, memByte_validated hcanonical.1 (by omega)]
    have hold (a : Nat) (h58 : 58 ≤ a) (ha : a < 63) : memByte (memWrites s.mem validationWrites) a = 0 := by
      rw [memByte_validated hcanonical.1 (by omega), factoryByte, if_neg (by omega), if_neg (by omega)]
    refine ⟨fun a ha => ?_, ?_, fun a h46 ha => ?_, ?_⟩
    · rw [hbyte a (by omega), factoryByte, if_neg (by omega), if_neg (by omega)]
    · have himage : ∀ i ∈ [0, 1, 2, 3, 4, 5, 6, 7, 8, 9, 10, 11], memByte (endStep u).mem (34 + i) = factoryByte (34 + i) :=
        fun i hi => hbyte _ (by simp at hi; omega)
      rw [List.map_congr_left himage]
      decide
    · rw [hbyte a ha]
      exact factoryByte_chords a h46 ha
    · unfold RecordUpdated at hrecord ⊢
      rwa [hold 58 (by decide) (by decide), hold 60 (by decide) (by decide), hold 61 (by decide) (by decide),
        hold 62 (by decide) (by decide)] at hrecord
  · rw [(endStep_changes u).2 .defaults (by decide), hsup]
    exact foundInvalid_iff r s
  · rw [endStep_batLow, hsup]
  · rw [(endStep_changes u).2 .coldMarker (by decide), hsup]
  · rw [endStep_cfg, endStep_mem, hcfg]
  · rw [endStep_tr, htr]
  · rw [endStep_tr, htr]
  · rw [endStep_power, hsup]
    exact hwaits.1
  · rw [endStep_phase, hsup]
  · rw [endStep_reason, hsup]
  · rw [endStep_request, hsup]
  · rw [((endStep_changes u).2 .stretch (by decide)).1, hsup]
  · rw [((endStep_changes u).2 .stretch (by decide)).2, hsup]
  · intro hnone
    rw [endStep_tk, htk, hnone]
    exact ⟨rfl, rfl⟩
  · intro hsome
    rw [endStep_tk, htk, if_pos (Option.isSome_iff_ne_none.2 hsome)]
    exact ⟨rfl, rfl⟩
  · rw [endStep_fault, hfault, captureInto_invalid hfree hinvalid]
  · rw [endStep_fault, hfault, (captureInto_valid hvalid).1 a b hhalt]
  · rw [endStep_fault, hfault, (captureInto_valid hvalid).2 hhalt]

/-! ### The host-side reset (R154, R178) -/

/-- The end of a step that leaves the main domain in the stretch with a fresh reference sample sets no latch. -/
theorem endStep_of_stretch {u : State} (hpower : u.sup.power = .mainOn) (hphase : u.sup.phase = .stretch)
    (hlow : u.sup.pwrLow = u.env.pins.vddLow) : endStep u =
      { u with lv := { u.lv with atnA := u.env.pins.atnA, atnB := u.env.pins.atnB, nint := false } } := by
  have hline (v : State) (hv : v.sup.phase = .stretch) : interruptLine v = false := by simp [interruptLine, hv]
  have hfall : ¬ (u.env.pins.vddLow = true ∧ u.sup.pwrLow = false) := by
    rw [hlow]
    rintro ⟨hon, hoff⟩
    simp [hon] at hoff
  rw [endStep_main hpower (by rw [hphase]; decide), samplePower_eq, if_neg hfall, setInterruptLine, hline, ← hlow]
  · rfl
  · exact hphase

theorem exec_hostSideReset {cut : Option Nat} {r : ResetReason} {s : State} (hpower : s.sup.power = .mainOn)
    (hphase : s.sup.phase ≠ .held) (hcut : s.sup.cutShort = false) (hrequest : s.sup.request = some r)
    (hr : r = .watchdog ∨ r = .chord) :
    exec (.hostSideReset cut) s = .next (endStep (hostSideBody cut (samplePins s))) ∧
      (samplePins s).sup.request.getD .watchdog = r := by
  have hready : hostSideReady s = true :=
    (hostSideReady_iff s).2 ⟨hpower, hphase, hcut, by rcases hr with rfl | rfl <;> simp [hrequest]⟩
  refine ⟨congrArg Host.Outcome.next (if_pos hready), ?_⟩
  rw [samplePins_sup, hrequest]
  rfl

/-- What parts 1, 3, 5, 6 and 7 leave, with the reason and the memory as they stand. -/
theorem hostSideBody_state {r : ResetReason} {s : State} (h : s.sup.request.getD .watchdog = r) : hostSideBody none s =
    { mainDomainReset false s with
      cfg := loadedConfig s.mem
      mem := memWrites s.mem (recordWrites r s.mem)
      lv := { latches := if s.tk.wake then 0x0040#16 else 0 }
      sup := { (mainDomainReset false s).sup with phase := .stretch, reason := some r } } := by
  have hbit : (0 : Half) ||| (if s.tk.wake then 0x0040#16 else 0) = if s.tk.wake then 0x0040#16 else 0 := BitVec.zero_or
  rw [hostSideBody_none, h, transferWake_eq]
  exact congrArg (fun w : Half => { mainDomainReset false s with
    cfg := loadedConfig s.mem
    mem := memWrites s.mem (recordWrites r s.mem)
    lv := { latches := w }
    sup := { (mainDomainReset false s).sup with phase := .stretch, reason := some r } }) hbit

/-- Settles O53: the parts leave every block reset, and the class table, the fault record and the halt detector alone. -/
theorem hostSideResetPreservesTablesAndFault : Obligations.HostSideResetPreservesTablesAndFault := by
  intro r s hcanonical hpower hphase hcut hrequest hr
  obtain ⟨hexec, hreason⟩ := exec_hostSideReset (cut := none) hpower hphase hcut hrequest hr
  have hstate := hostSideBody_state hreason
  have hchanges := hostSideBody_none_changes (samplePins s)
  obtain ⟨hpower', hphase'⟩ := hostSideBody_sup none (samplePins s)
  have hends : endStep (hostSideBody none (samplePins s)) = _ := endStep_of_stretch
    (hpower'.trans (by rw [samplePins_sup]; exact hpower)) hphase' (by rw [hstate]; rfl)
  have hchanges' : ChangesOnly (.config :: .memory :: partOneParts) s (endStep (hostSideBody none (samplePins s))) :=
    ((samplePins_changes _ s).trans hchanges).trans ((endStep_changes _).mono (by decide))
  have hpins : ReadsPins s (endStep (hostSideBody none (samplePins s))) := readsPins_endStep (by rw [hstate]; rfl)
  obtain ⟨hrecord, hkept⟩ := recordUpdated_of_writes hcanonical.1 (r := r) (t := endStep (hostSideBody none (samplePins s)))
    (by rw [endStep_mem, hstate, samplePins_mem])
  refine ⟨_, hexec, ?_, ?_, ?_, ?_, ?_, ?_, ?_, ?_, hrecord, hkept, ?_, ?_, ?_, ?_, hpins, hchanges'⟩
  · rw [hends, hstate]
    exact mainDomainReset_blocksReset false (samplePins s)
  · rw [hends, hstate, samplePins_tk]
  · rw [hends]
  · rw [hends, hstate]
    show (samplePins s).env.pins.vddLow = _
    rw [samplePins_env]
  · rw [endStep_fault, hostSideBody_fault, samplePins_fault]
  · rw [endStep_detector, hstate]
    show (samplePins s).sup.detector = _
    rw [samplePins_sup]
  · rw [endStep_haltReady, hstate]
    show (samplePins s).sup.haltReady = _
    rw [samplePins_sup]
  · rw [endStep_cfg, hstate, samplePins_mem]
  · rw [endStep_power, hpower', samplePins_sup]
    exact hpower
  · rw [endStep_phase, hphase']
    rfl
  · rw [endStep_reason, hstate]
  · rw [endStep_request, hstate]
    rfl

end Sys2Proof.Machine
end

section
-- One lemma at a time: elaborated side by side they ask for more threads than the memory limit of the check leaves.
set_option Elab.async false
/-!
PROOF. Steps cut short (R7, R168, R177).
-/

namespace Sys2Proof.Machine

/-! ### Commands that write the memory (R168) -/

/-- A writer cut after `k` bytes ends its step without a result. -/
theorem cutWriter_ends {s u : State} {m : Memory} (hr : Runs s) (hu : u = { samplePins s with mem := m }) :
    QuietStep [.memory, .cut] s (endStep (markCut u)) ∧ (endStep (markCut u)).sup.cutShort = true ∧
      (endStep (markCut u)).mem = m := by
  subst hu
  refine ⟨quietStep_of_frame hr ((setMem_frame _ _).trans (markCut_frame _)), ?_, ?_⟩
  · rw [endStep_cutShort]
    rfl
  · rw [endStep_mem]
    rfl

/-- The cut form of the writers: the first `k` of their writes. -/
theorem writeBackup_cut (k : Nat) (bytes : List (Nat × Byte)) (s : State) :
    writeBackup (some k) bytes s = markCut { s with mem := memWrites s.mem ((withChecksum s.mem bytes).take k) } := rfl

theorem cutWriter {code : Byte} {c : Instr} {k : Nat} {body : State → State} (hbody : CommandBody c code body) {s : State}
    (h : Started code s) {bytes : List (Nat × Byte)} (hwrites : body (samplePins s) = writeBackup (some k) bytes (samplePins s)) :
    ∃ t, exec c s = .next t ∧ QuietStep [.memory, .cut] s t ∧ t.sup.cutShort = true ∧
      t.mem = memWrites s.mem ((withChecksum s.mem bytes).take k) := by
  refine ⟨_, exec_started hbody h, ?_⟩
  rw [hwrites, writeBackup_cut, samplePins_mem]
  exact cutWriter_ends h.1 rfl

/-- BACKUP-WRITE cut short, whether its arguments are in range or not (R164, R168). -/
theorem backupWrite_cut {k : Nat} {s : State} (h : Started 0x51 s) :
    ∃ t, exec (.backupWrite (some k)) s = .next t ∧ QuietStep [.memory, .cut] s t ∧ t.sup.cutShort = true ∧
      t.mem = if badIndex s (.backupWrite none) = none then
        memWrites s.mem ((withChecksum s.mem (hostBytes s.mb.work)).take k) else s.mem := by
  split
  · next hgood =>
    refine cutWriter (.backupWrite (some k)) h ?_
    have hbody : backupWriteBody (some k) (samplePins s) =
        writeBackup (some k) (hostBytes (samplePins s).mb.work) (samplePins s) := withChecksCut_ok (checks_pass hgood)
    rw [hbody, samplePins_mb]
  · next hbad =>
    obtain ⟨i, hi⟩ := Option.ne_none_iff_exists'.1 hbad
    have hf : firstFailing (argChecks (samplePins s) (.backupWrite (some k))) = some i := by
      rw [firstFailing_argChecks_samplePins]
      exact hi
    have hbody : backupWriteBody (some k) (samplePins s) = markCut (samplePins s) := by
      show withChecksCut (some k) (argChecks (samplePins s) (.backupWrite (some k))) _ (samplePins s) = _
      unfold withChecksCut
      rw [hf]
      rfl
    refine ⟨_, exec_started (.backupWrite (some k)) h, ?_⟩
    rw [hbody]
    exact cutWriter_ends h.1 (by rw [← samplePins_mem s])

/-! ### Timekeeper commands (R7) -/

/-- The parts of the timekeeper that commands write. -/
def clockParts : List Part := [.calendar, .counters, .adjust, .alarm, .setFlags]

/-- Cut short the work makes all of its changes to the timekeeper or none: `v` is the state with all of them. -/
def CutsWhole (body : Option Nat → State → State) (s : State) : Prop :=
  ∃ v, Frame clockParts s v ∧ (body none s).tk = v.tk ∧ ∀ k, body (some k) s = markCut (if k = 0 then s else v)

theorem cutsWhole_allOrNothing {change finish : State → State} {s : State} (hchange : Frame clockParts s (change s))
    (hfinish : ∀ u, (finish u).tk = u.tk) : CutsWhole (fun cut => allOrNothing cut change finish) s :=
  ⟨change s, hchange, hfinish _, fun k => by cases k <;> rfl⟩

/-- Checks that fail leave nothing to change. -/
theorem cutsWhole_withChecksCut {checks : List (Bool × Nat)} {act : Option Nat → State → State} {s : State}
    (h : CutsWhole act s) : CutsWhole (fun cut => withChecksCut cut checks (act cut)) s := by
  unfold CutsWhole withChecksCut
  cases firstFailing checks with
  | none => exact h
  | some i => exact ⟨s, Frame.refl _ _, rfl, fun k => by simp⟩

/-- A timekeeper command cut short. -/
theorem cutTimekeeper {code : Byte} {c : Option Nat → Instr} {body : Option Nat → State → State}
    (hbody : ∀ cut, CommandBody (c cut) code (body cut)) {s u : State} (h : Started code s) (hu : exec (c none) s = .next u)
    (hcuts : CutsWhole body (samplePins s)) (k : Nat) :
    ∃ t, exec (c (some k)) s = .next t ∧ t.mb = s.mb ∧ t.sup.cutShort = true ∧
      QuietStep [.calendar, .counters, .adjust, .alarm, .setFlags, .cut] s t ∧
      (if k = 0 then t.tk = s.tk else t.tk = u.tk) := by
  obtain ⟨v, hframe, htk, hcut⟩ := hcuts
  rw [exec_started (hbody none) h, Host.Outcome.next.injEq] at hu
  have hchange : Frame clockParts (samplePins s) (if k = 0 then samplePins s else v) := Frame.ite (Frame.refl _ _) hframe
  have hwork : Frame [.calendar, .counters, .adjust, .alarm, .setFlags, .cut] (samplePins s)
      (markCut (if k = 0 then samplePins s else v)) := hchange.trans (markCut_frame _)
  refine ⟨_, exec_started (hbody (some k)) h, ?_⟩
  rw [hcut]
  refine ⟨?_, ?_, quietStep_of_frame h.1 hwork, ?_⟩
  · rw [endStep_mb, hwork.same .mailbox (by decide), samplePins_mb]
  · rw [endStep_cutShort]
    rfl
  · rw [endStep_tk, ← hu, endStep_tk, htk, ← samplePins_tk s]
    split
    · rfl
    · rfl

theorem setTime_cutsWhole (s : State) : CutsWhole setTimeBody s :=
  cutsWhole_withChecksCut (act := fun cut => allOrNothing cut writeTime completeOk)
    (cutsWhole_allOrNothing (writeTime_frame s).mono fun _ => rfl)

theorem setDate_cutsWhole (s : State) : CutsWhole setDateBody s :=
  cutsWhole_withChecksCut (act := fun cut => allOrNothing cut writeDate completeOk)
    (cutsWhole_allOrNothing (writeDate_frame s).mono fun _ => rfl)

theorem setAdjust_cutsWhole (s : State) : CutsWhole setAdjustBody s :=
  cutsWhole_withChecksCut (act := fun cut => allOrNothing cut (fun s => { s with tk := { s.tk with adjust := s.mb.work[0] } })
      (complete .ok (Row.zero.set 0 s.tk.adjust)))
    (cutsWhole_allOrNothing (setAdjustValue_frame _ s).mono fun _ => rfl)

theorem setAlarm_cutsWhole (s : State) : CutsWhole setAlarmBody s := by
  refine cutsWhole_withChecksCut (act := fun cut s => if s.tk.alarm.armed then allOrNothing cut id (complete .armed Row.zero) s
    else allOrNothing cut writeAlarm completeOk s) ?_
  unfold CutsWhole
  dsimp only
  split
  · exact cutsWhole_allOrNothing (change := id) (Frame.refl _ s) fun _ => rfl
  · exact cutsWhole_allOrNothing (writeAlarm_frame s).mono fun _ => rfl

/-! ### Reset sequences (R177) -/

theorem fullResetSequence_cut {k : Nat} {r : ResetReason} {s : State} (h : SequenceWaits r s) :
    ∃ t, exec (.fullResetSequence (some k)) s = .next t ∧ t.sup.cutShort = true ∧ t.sup.phase = .held ∧
      (let writes := fullResetWrites r (batterySeenLow s) s.mem
       t.mem = memWrites s.mem (writes.take k) ∧
       t.sup.coldMarker = (s.sup.coldMarker && decide (k ≤ writes.length)) ∧
       (s.sup.oscHalt ≠ none → writes.length + 2 ≤ k → t.tk.timeSet = false ∧ t.tk.dateSet = false) ∧
       (s.sup.oscHalt = none ∨ k < writes.length + 2 →
         t.tk.timeSet = s.tk.timeSet ∧ t.tk.dateSet = s.tk.dateSet)) ∧
      ChangesOnly [.memory, .coldMarker, .setFlags, .power, .request, .cut] s t := by
  obtain ⟨hexec, hreason⟩ := exec_fullResetSequence (cut := some k) h
  have hbody : fullResetBody (some k) (samplePins s) = fullResetCut k r (samplePins s) := by rw [← hreason]; rfl
  rw [hbody] at hexec
  have hsup := fullResetCut_sup k r (samplePins s)
  have hmem := fullResetCut_mem k r (samplePins s)
  have htk := fullResetCut_tk k r (samplePins s)
  have hframe := fullResetCut_frame k r (samplePins s)
  rw [batteryLow_samplePins, samplePins_sup, samplePins_mem] at hsup
  rw [batteryLow_samplePins, samplePins_mem] at hmem
  rw [batteryLow_samplePins, samplePins_tk, samplePins_sup, samplePins_mem] at htk
  generalize fullResetCut k r (samplePins s) = u at *
  have hheld : u.sup.power = .mainOn → u.sup.phase = .held := fun _ => by rw [hsup]
  refine ⟨_, hexec, ?_, ?_, ⟨?_, ?_, fun hsome hk => ?_, fun hnone => ?_⟩, powerStep_changes hframe.changesOnly hheld⟩
  · rw [endStep_cutShort, hsup]
  · rw [endStep_phase, hsup]
  · rw [endStep_mem, hmem]
  · rw [(endStep_held_changes (ps := []) hheld).2 .coldMarker (by decide), hsup]
  · have hcleared : (s.sup.oscHalt.isSome &&
        decide ((fullResetWrites r (batterySeenLow s) s.mem).length + 1 < k)) = true := by
      rw [Option.isSome_iff_ne_none.2 hsome, Bool.true_and]
      exact decide_eq_true (by omega)
    rw [endStep_tk, htk, if_pos hcleared]
    exact ⟨rfl, rfl⟩
  · have hkept : ¬ (s.sup.oscHalt.isSome &&
        decide ((fullResetWrites r (batterySeenLow s) s.mem).length + 1 < k)) = true := by
      rw [Bool.and_eq_true, Option.isSome_iff_ne_none, decide_eq_true_iff]
      rcases hnone with hnone | hk
      · exact fun hboth => hboth.1 hnone
      · omega
    rw [endStep_tk, htk, if_neg hkept]
    exact ⟨rfl, rfl⟩

theorem hostSideReset_cut {k : Nat} {r : ResetReason} {s : State} (hpower : s.sup.power = .mainOn)
    (hphase : s.sup.phase ≠ .held) (hcut : s.sup.cutShort = false) (hrequest : s.sup.request = some r)
    (hr : r = .watchdog ∨ r = .chord) :
    ∃ t, exec (.hostSideReset (some k)) s = .next t ∧ t.sup.cutShort = true ∧ t.sup.phase = .held ∧
      t.mem = memWrites s.mem ((recordWrites r s.mem).take k) ∧ ChangesOnly (.memory :: partOneParts) s t := by
  obtain ⟨hexec, hreason⟩ := exec_hostSideReset (cut := some k) hpower hphase hcut hrequest hr
  have hstate := hostSideBody_some k (samplePins s)
  rw [hreason, samplePins_mem] at hstate
  have hheld : (hostSideBody (some k) (samplePins s)).sup.phase = .held := (hostSideBody_sup (some k) _).2
  refine ⟨_, hexec, ?_, by rw [endStep_phase, hheld], ?_,
    powerStep_changes (hostSideBody_some_changes k _) fun _ => hheld⟩
  · rw [endStep_cutShort, hstate]
    rfl
  · rw [endStep_mem, hstate]
    rfl

/-- Settles O55, command by command. -/
theorem cutStepsLeaveAPrefix : Obligations.CutStepsLeaveAPrefix := by
  refine ⟨fun k s h => backupWrite_cut h, fun k s h => cutWriter (.clearResetRecord (some k)) h rfl,
    fun k s h => cutWriter (.saveConfig (some k)) h (by rw [samplePins_cfg]), fun k s u p hp h hu => ?_,
    fun k r s h => fullResetSequence_cut h,
    fun k r s hpower hphase hcut hrequest hr => hostSideReset_cut hpower hphase hcut hrequest hr⟩
  simp only [List.mem_cons, List.not_mem_nil, or_false] at hp
  obtain rfl | rfl | rfl | rfl | rfl := hp
  · exact cutTimekeeper .setTime h hu (setTime_cutsWhole _) k
  · exact cutTimekeeper .setDate h hu (setDate_cutsWhole _) k
  · exact cutTimekeeper .setAlarm h hu (setAlarm_cutsWhole _) k
  · exact cutTimekeeper .clearAlarm h hu (cutsWhole_allOrNothing (disarmAlarm_frame _).mono fun _ => rfl) k
  · exact cutTimekeeper .setAdjust h hu (setAdjust_cutsWhole _) k

end Sys2Proof.Machine
end
